-- ==== Sys2Proof/Word.lean ====
section
/-! DEFINITION. The machine's words: 36-bit words, their 18-bit halves, 30-bit virtual addresses, 12-bit
section numbers, accumulator numbers (spec/00_scope.md R3, R4, R10, R11). A field is read by the helpers of
Machine/Bits.lean. -/

namespace Sys2Proof

/-- A 36-bit word, bit 0 of the memo the most significant (R3, R11). -/
abbrev Word := BitVec 36

/-- An 18-bit half of a word, or an in-section address (R10). -/
abbrev Half := BitVec 18

/-- A 30-bit virtual address: section in the high 12 bits, word in section in the low 18 (R4, R61). -/
abbrev Addr := BitVec 30

/-- A section number, 0 to 7777 octal (R62). -/
abbrev Sec := BitVec 12

/-- The number of an accumulator, 0 to 17 octal (R20). -/
abbrev AcNum := BitVec 4

/-- The number of an AC block (R22). -/
abbrev BlockNum := BitVec 3

/-- The processor flags: bits 0 to 12 of a flags-and-PC word (R28). -/
abbrev Flags := BitVec 13

end Sys2Proof
end

