-- ==== Sys2Proof/Machine/Bits.lean ====
section
/-! DEFINITION. Bit fields of words and addresses, in the memo's numbering (bit 0 leftmost), sign extension, and
the building of words and addresses from fields (spec/00_scope.md R10, R11; 30_encoding.md R100 to R110, R126). -/

namespace Sys2Proof.Machine

/-- `w[i]` of R11: bit `i`, bit 0 the most significant. -/
def bitAt (w : Word) (i : Nat) : Bool := w.getMsbD i

/-- Left half, bits 0-17 (R11). -/
def lh (w : Word) : Half := w.extractLsb' 18 18

/-- Right half, bits 18-35 (R11). -/
def rh (w : Word) : Half := w.extractLsb' 0 18

/-- `L,,R` (R10). -/
def join (l r : Half) : Word := l ++ r

/-- Bits 6-35 of a word, read as a 30-bit address (R61). -/
def addrOf (w : Word) : Addr := w.extractLsb' 0 30

/-- The word a 30-bit address is stored as: bits 0-5 zero (R61, D10). -/
def wordOfAddr (a : Addr) : Word := a.setWidth 36

/-- `sec(a)`: the section number of an address (00_scope.md 5.3). -/
def secOf (a : Addr) : Sec := a.extractLsb' 18 12

/-- `off(a)`: the word within the section (00_scope.md 5.3). -/
def offOf (a : Addr) : Half := a.extractLsb' 0 18

/-- `s,,n` as an address (R10). -/
def mkAddr (s : Sec) (n : Half) : Addr := s ++ n

/-- Bits 6-17 of a word: a section field (R103, R107, R114). -/
def secField (w : Word) : Sec := w.extractLsb' 18 12

/-- `sext_30`: an 18-bit Y extended "from bit 18 into bits 6-17" (R11, R156). -/
def sext30 (y : Half) : Addr := y.signExtend 30

/-- Bits 0-8: the operation code (R100). -/
def opField (w : Word) : BitVec 9 := w.extractLsb' 27 9

/-- Bits 9-12: the AC field (R100). -/
def acField (w : Word) : AcNum := w.extractLsb' 23 4

/-- Bit 13: the indirect bit of an instruction or IFIW (R100, R102). -/
def ifiwI (w : Word) : Bool := bitAt w 13

/-- Bits 14-17: the index field of an instruction or IFIW (R100, R102). -/
def ifiwX (w : Word) : AcNum := w.extractLsb' 18 4

/-- Bits 18-35: the address field of an instruction or IFIW (R100, R102). -/
def ifiwY (w : Word) : Half := rh w

/-- Bit 1: the indirect bit of an EFIW (R103). -/
def efiwI (w : Word) : Bool := bitAt w 1

/-- Bits 2-5: the index field of an EFIW (R103). -/
def efiwX (w : Word) : AcNum := w.extractLsb' 30 4

/-- Bits 6-35: the 30-bit address field of an EFIW (R103). -/
def efiwY (w : Word) : Addr := addrOf w

/-- `w` with bits 6-35 replaced by `a` (R313, R314). -/
def withAddr (w : Word) (a : Addr) : Word := w.extractLsb' 30 6 ++ a

/-- Bits 0-5: the P field of a byte pointer (R108). -/
def bpP (w : Word) : BitVec 6 := w.extractLsb' 30 6

/-- Bits 6-11: the S field of a byte pointer (R108). -/
def bpS (w : Word) : BitVec 6 := w.extractLsb' 24 6

/-- `w` with bits 0-5 replaced by `p` (R211). -/
def withP (w : Word) (p : BitVec 6) : Word := p ++ w.extractLsb' 0 30

/-- An instruction word from its fields (R126). -/
def packWord (op : BitVec 9) (a : AcNum) (i : Bool) (x : AcNum) (y : Half) : Word :=
  op ++ a ++ BitVec.ofBool i ++ x ++ y

end Sys2Proof.Machine
end

