-- ==== Sys2Proof/Syntax.lean ====
section
/-! DEFINITION. The syntax of the machine: one constructor of `Instr` for each of the 450 rows of
spec/opcode_table.json (30_encoding.md R100, R116, R117, R121, R122). Every field is at its exact width. -/

namespace Sys2Proof

/-- The local/global flag every EA-calc yields (40_ea_calc.md R151). -/
inductive RefFlag where
  /-- LOCAL -/
  | loc
  /-- GLOBAL -/
  | glob
deriving DecidableEq, Repr

/-- An effective address: a 30-bit address and its local/global flag (R151). -/
structure EA where
  /-- the address -/
  addr : Addr
  /-- the flag -/
  flag : RefFlag
deriving DecidableEq, Repr

/-- The address part of an instruction word: I (bit 13), X (bits 14-17), Y (bits 18-35) (R100). -/
structure AddrFields where
  /-- indirect bit -/
  i : Bool
  /-- index register address, 0 for none -/
  x : AcNum
  /-- address field -/
  y : Half
deriving DecidableEq, Repr

/-- The instructions. `a` is the AC field and `e` the address part of the word (R100); a JRST function and XCT have no AC
field of their own (R122, R116); `n` of `pxct` is the control field E1 D1 E2 D2 (R116); `lo` of `muuo040` is bits 4-8 of
the opcode, free in that range row; `r` of `io` is bits 3-35. The last 16 are extended opcode words (R117): such a row is no
instruction word, and its constructor is the EXTEND instruction that reached it: `a` is the EXTEND's AC field, `e0` its
effective address E0, and `z`, `e` are bits 9-12 and 13-35 of the word found at E0. -/
inductive Instr where
  /-- MUUO opcode 000, R346. -/
  | muuo000 (a : AcNum) (e : AddrFields)
  /-- LUUO LUUO opcode 001, R340. -/
  | luuo01 (a : AcNum) (e : AddrFields)
  /-- LUUO LUUO opcode 002, R340. -/
  | luuo02 (a : AcNum) (e : AddrFields)
  /-- LUUO LUUO opcode 003, R340. -/
  | luuo03 (a : AcNum) (e : AddrFields)
  /-- LUUO LUUO opcode 004, R340. -/
  | luuo04 (a : AcNum) (e : AddrFields)
  /-- LUUO LUUO opcode 005, R340. -/
  | luuo05 (a : AcNum) (e : AddrFields)
  /-- LUUO LUUO opcode 006, R340. -/
  | luuo06 (a : AcNum) (e : AddrFields)
  /-- LUUO LUUO opcode 007, R340. -/
  | luuo07 (a : AcNum) (e : AddrFields)
  /-- LUUO LUUO opcode 010, R340. -/
  | luuo10 (a : AcNum) (e : AddrFields)
  /-- LUUO LUUO opcode 011, R340. -/
  | luuo11 (a : AcNum) (e : AddrFields)
  /-- LUUO LUUO opcode 012, R340. -/
  | luuo12 (a : AcNum) (e : AddrFields)
  /-- LUUO LUUO opcode 013, R340. -/
  | luuo13 (a : AcNum) (e : AddrFields)
  /-- LUUO LUUO opcode 014, R340. -/
  | luuo14 (a : AcNum) (e : AddrFields)
  /-- LUUO LUUO opcode 015, R340. -/
  | luuo15 (a : AcNum) (e : AddrFields)
  /-- LUUO LUUO opcode 016, R340. -/
  | luuo16 (a : AcNum) (e : AddrFields)
  /-- LUUO LUUO opcode 017, R340. -/
  | luuo17 (a : AcNum) (e : AddrFields)
  /-- LUUO LUUO opcode 020, R340. -/
  | luuo20 (a : AcNum) (e : AddrFields)
  /-- LUUO LUUO opcode 021, R340. -/
  | luuo21 (a : AcNum) (e : AddrFields)
  /-- LUUO LUUO opcode 022, R340. -/
  | luuo22 (a : AcNum) (e : AddrFields)
  /-- LUUO LUUO opcode 023, R340. -/
  | luuo23 (a : AcNum) (e : AddrFields)
  /-- LUUO LUUO opcode 024, R340. -/
  | luuo24 (a : AcNum) (e : AddrFields)
  /-- LUUO LUUO opcode 025, R340. -/
  | luuo25 (a : AcNum) (e : AddrFields)
  /-- LUUO LUUO opcode 026, R340. -/
  | luuo26 (a : AcNum) (e : AddrFields)
  /-- LUUO LUUO opcode 027, R340. -/
  | luuo27 (a : AcNum) (e : AddrFields)
  /-- LUUO LUUO opcode 030, R340. -/
  | luuo30 (a : AcNum) (e : AddrFields)
  /-- LUUO LUUO opcode 031, R340. -/
  | luuo31 (a : AcNum) (e : AddrFields)
  /-- LUUO LUUO opcode 032, R340. -/
  | luuo32 (a : AcNum) (e : AddrFields)
  /-- LUUO LUUO opcode 033, R340. -/
  | luuo33 (a : AcNum) (e : AddrFields)
  /-- LUUO LUUO opcode 034, R340. -/
  | luuo34 (a : AcNum) (e : AddrFields)
  /-- LUUO LUUO opcode 035, R340. -/
  | luuo35 (a : AcNum) (e : AddrFields)
  /-- LUUO LUUO opcode 036, R340. -/
  | luuo36 (a : AcNum) (e : AddrFields)
  /-- LUUO LUUO opcode 037, R340. -/
  | luuo37 (a : AcNum) (e : AddrFields)
  /-- MUUO opcodes 040-077, R346. -/
  | muuo040 (lo : BitVec 5) (a : AcNum) (e : AddrFields)
  /-- MUUO opcode 100 unassigned, R346. -/
  | muuo100 (a : AcNum) (e : AddrFields)
  /-- MUUO opcode 101 unassigned, R346. -/
  | muuo101 (a : AcNum) (e : AddrFields)
  /-- MUUO opcode 102 unassigned, R346. -/
  | muuo102 (a : AcNum) (e : AddrFields)
  /-- MUUO opcode 103 unassigned, R346. -/
  | muuo103 (a : AcNum) (e : AddrFields)
  /-- MUUO opcode 106 unassigned, R346. -/
  | muuo106 (a : AcNum) (e : AddrFields)
  /-- MUUO opcode 107 unassigned, R346. -/
  | muuo107 (a : AcNum) (e : AddrFields)
  /-- MUUO opcode 247 unassigned, R346. -/
  | muuo247 (a : AcNum) (e : AddrFields)
  /-- JSYS, R287. -/
  | jsys (a : AcNum) (e : AddrFields)
  /-- ADJSP, R320. -/
  | adjsp (a : AcNum) (e : AddrFields)
  /-- DFAD, R403. -/
  | dfad (a : AcNum) (e : AddrFields)
  /-- DFSB, R403. -/
  | dfsb (a : AcNum) (e : AddrFields)
  /-- DFMP, R403. -/
  | dfmp (a : AcNum) (e : AddrFields)
  /-- DFDV, R403. -/
  | dfdv (a : AcNum) (e : AddrFields)
  /-- DADD, R403. -/
  | dadd (a : AcNum) (e : AddrFields)
  /-- DSUB, R403. -/
  | dsub (a : AcNum) (e : AddrFields)
  /-- DMUL, R403. -/
  | dmul (a : AcNum) (e : AddrFields)
  /-- DDIV, R403. -/
  | ddiv (a : AcNum) (e : AddrFields)
  /-- DMOVE, R405. -/
  | dmove (a : AcNum) (e : AddrFields)
  /-- DMOVN, R406. -/
  | dmovn (a : AcNum) (e : AddrFields)
  /-- FIX, R403. -/
  | fix (a : AcNum) (e : AddrFields)
  /-- EXTEND, R230. -/
  | extend (a : AcNum) (e : AddrFields)
  /-- DMOVEM, R406. -/
  | dmovem (a : AcNum) (e : AddrFields)
  /-- DMOVNM, R406. -/
  | dmovnm (a : AcNum) (e : AddrFields)
  /-- FIXR, R403. -/
  | fixr (a : AcNum) (e : AddrFields)
  /-- FLTR, R403. -/
  | fltr (a : AcNum) (e : AddrFields)
  /-- UFA, R403. -/
  | ufa (a : AcNum) (e : AddrFields)
  /-- DFN, R403. -/
  | dfn (a : AcNum) (e : AddrFields)
  /-- FSC, R403. -/
  | fsc (a : AcNum) (e : AddrFields)
  /-- IBP, R210. -/
  | ibp (a : AcNum) (e : AddrFields)
  /-- ILDB, R208. -/
  | ildb (a : AcNum) (e : AddrFields)
  /-- LDB, R206. -/
  | ldb (a : AcNum) (e : AddrFields)
  /-- IDPB, R209. -/
  | idpb (a : AcNum) (e : AddrFields)
  /-- DPB, R207. -/
  | dpb (a : AcNum) (e : AddrFields)
  /-- FAD, R403. -/
  | fad (a : AcNum) (e : AddrFields)
  /-- MUUO FADL on earlier processors; not implemented on the KL10, executes as an MUUO, R346. -/
  | muuo141 (a : AcNum) (e : AddrFields)
  /-- FADM, R403. -/
  | fadm (a : AcNum) (e : AddrFields)
  /-- FADB, R403. -/
  | fadb (a : AcNum) (e : AddrFields)
  /-- FADR, R403. -/
  | fadr (a : AcNum) (e : AddrFields)
  /-- FADRI, R403. -/
  | fadri (a : AcNum) (e : AddrFields)
  /-- FADRM, R403. -/
  | fadrm (a : AcNum) (e : AddrFields)
  /-- FADRB, R403. -/
  | fadrb (a : AcNum) (e : AddrFields)
  /-- FSB, R403. -/
  | fsb (a : AcNum) (e : AddrFields)
  /-- MUUO FSBL on earlier processors; not implemented on the KL10, executes as an MUUO, R346. -/
  | muuo151 (a : AcNum) (e : AddrFields)
  /-- FSBM, R403. -/
  | fsbm (a : AcNum) (e : AddrFields)
  /-- FSBB, R403. -/
  | fsbb (a : AcNum) (e : AddrFields)
  /-- FSBR, R403. -/
  | fsbr (a : AcNum) (e : AddrFields)
  /-- FSBRI, R403. -/
  | fsbri (a : AcNum) (e : AddrFields)
  /-- FSBRM, R403. -/
  | fsbrm (a : AcNum) (e : AddrFields)
  /-- FSBRB, R403. -/
  | fsbrb (a : AcNum) (e : AddrFields)
  /-- FMP, R403. -/
  | fmp (a : AcNum) (e : AddrFields)
  /-- MUUO FMPL on earlier processors; not implemented on the KL10, executes as an MUUO, R346. -/
  | muuo161 (a : AcNum) (e : AddrFields)
  /-- FMPM, R403. -/
  | fmpm (a : AcNum) (e : AddrFields)
  /-- FMPB, R403. -/
  | fmpb (a : AcNum) (e : AddrFields)
  /-- FMPR, R403. -/
  | fmpr (a : AcNum) (e : AddrFields)
  /-- FMPRI, R403. -/
  | fmpri (a : AcNum) (e : AddrFields)
  /-- FMPRM, R403. -/
  | fmprm (a : AcNum) (e : AddrFields)
  /-- FMPRB, R403. -/
  | fmprb (a : AcNum) (e : AddrFields)
  /-- FDV, R403. -/
  | fdv (a : AcNum) (e : AddrFields)
  /-- MUUO FDVL on earlier processors; not implemented on the KL10, executes as an MUUO, R346. -/
  | muuo171 (a : AcNum) (e : AddrFields)
  /-- FDVM, R403. -/
  | fdvm (a : AcNum) (e : AddrFields)
  /-- FDVB, R403. -/
  | fdvb (a : AcNum) (e : AddrFields)
  /-- FDVR, R403. -/
  | fdvr (a : AcNum) (e : AddrFields)
  /-- FDVRI, R403. -/
  | fdvri (a : AcNum) (e : AddrFields)
  /-- FDVRM, R403. -/
  | fdvrm (a : AcNum) (e : AddrFields)
  /-- FDVRB, R403. -/
  | fdvrb (a : AcNum) (e : AddrFields)
  /-- MOVE, R395. -/
  | move (a : AcNum) (e : AddrFields)
  /-- MOVEI, R394. -/
  | movei (a : AcNum) (e : AddrFields)
  /-- MOVEM, R401. -/
  | movem (a : AcNum) (e : AddrFields)
  /-- MOVES, R401. -/
  | moves (a : AcNum) (e : AddrFields)
  /-- MOVS, R401. -/
  | movs (a : AcNum) (e : AddrFields)
  /-- MOVSI, R401. -/
  | movsi (a : AcNum) (e : AddrFields)
  /-- MOVSM, R401. -/
  | movsm (a : AcNum) (e : AddrFields)
  /-- MOVSS, R401. -/
  | movss (a : AcNum) (e : AddrFields)
  /-- MOVN, R401. -/
  | movn (a : AcNum) (e : AddrFields)
  /-- MOVNI, R401. -/
  | movni (a : AcNum) (e : AddrFields)
  /-- MOVNM, R401. -/
  | movnm (a : AcNum) (e : AddrFields)
  /-- MOVNS, R401. -/
  | movns (a : AcNum) (e : AddrFields)
  /-- MOVM, R401. -/
  | movm (a : AcNum) (e : AddrFields)
  /-- MOVMI, R401. -/
  | movmi (a : AcNum) (e : AddrFields)
  /-- MOVMM, R401. -/
  | movmm (a : AcNum) (e : AddrFields)
  /-- MOVMS, R401. -/
  | movms (a : AcNum) (e : AddrFields)
  /-- IMUL, R403. -/
  | imul (a : AcNum) (e : AddrFields)
  /-- IMULI, R403. -/
  | imuli (a : AcNum) (e : AddrFields)
  /-- IMULM, R403. -/
  | imulm (a : AcNum) (e : AddrFields)
  /-- IMULB, R403. -/
  | imulb (a : AcNum) (e : AddrFields)
  /-- MUL, R403. -/
  | mul (a : AcNum) (e : AddrFields)
  /-- MULI, R403. -/
  | muli (a : AcNum) (e : AddrFields)
  /-- MULM, R403. -/
  | mulm (a : AcNum) (e : AddrFields)
  /-- MULB, R403. -/
  | mulb (a : AcNum) (e : AddrFields)
  /-- IDIV, R403. -/
  | idiv (a : AcNum) (e : AddrFields)
  /-- IDIVI, R403. -/
  | idivi (a : AcNum) (e : AddrFields)
  /-- IDIVM, R403. -/
  | idivm (a : AcNum) (e : AddrFields)
  /-- IDIVB, R403. -/
  | idivb (a : AcNum) (e : AddrFields)
  /-- DIV, R403. -/
  | div (a : AcNum) (e : AddrFields)
  /-- DIVI, R403. -/
  | divi (a : AcNum) (e : AddrFields)
  /-- DIVM, R403. -/
  | divm (a : AcNum) (e : AddrFields)
  /-- DIVB, R403. -/
  | divb (a : AcNum) (e : AddrFields)
  /-- ASH, R408. -/
  | ash (a : AcNum) (e : AddrFields)
  /-- ROT, R408. -/
  | rot (a : AcNum) (e : AddrFields)
  /-- LSH, R408. -/
  | lsh (a : AcNum) (e : AddrFields)
  /-- JFFO, R283. -/
  | jffo (a : AcNum) (e : AddrFields)
  /-- ASHC, R408. -/
  | ashc (a : AcNum) (e : AddrFields)
  /-- ROTC, R408. -/
  | rotc (a : AcNum) (e : AddrFields)
  /-- LSHC, R408. -/
  | lshc (a : AcNum) (e : AddrFields)
  /-- EXCH, R398. -/
  | exch (a : AcNum) (e : AddrFields)
  /-- BLT, R365. -/
  | blt (a : AcNum) (e : AddrFields)
  /-- AOBJP, R283. -/
  | aobjp (a : AcNum) (e : AddrFields)
  /-- AOBJN, R283. -/
  | aobjn (a : AcNum) (e : AddrFields)
  /-- JRST, R271. -/
  | jrst (e : AddrFields)
  /-- PORTAL, R286. -/
  | portal (e : AddrFields)
  /-- JRSTF, R272. -/
  | jrstf (e : AddrFields)
  /-- MUUO JRST function 03 unassigned, R286. -/
  | muuoJrst03 (e : AddrFields)
  /-- HALT, R286. -/
  | halt (e : AddrFields)
  /-- XJRSTF, R273. -/
  | xjrstf (e : AddrFields)
  /-- XJEN, R286. -/
  | xjen (e : AddrFields)
  /-- XPCW, R286. -/
  | xpcw (e : AddrFields)
  /-- JRST10, R286. -/
  | jrst10 (e : AddrFields)
  /-- MUUO JRST function 11 unassigned, R286. -/
  | muuoJrst11 (e : AddrFields)
  /-- JEN, R286. -/
  | jen (e : AddrFields)
  /-- MUUO JRST function 13 unassigned, R286. -/
  | muuoJrst13 (e : AddrFields)
  /-- SFM, R286. -/
  | sfm (e : AddrFields)
  /-- XJRST, R274. -/
  | xjrst (e : AddrFields)
  /-- MUUO JRST function 16 unassigned, R286. -/
  | muuoJrst16 (e : AddrFields)
  /-- MUUO JRST function 17 unassigned, R286. -/
  | muuoJrst17 (e : AddrFields)
  /-- JFCL, R283. -/
  | jfcl (a : AcNum) (e : AddrFields)
  /-- XCT, R430. -/
  | xct (e : AddrFields)
  /-- PXCT, R440. -/
  | pxct (n : AcNum) (e : AddrFields)
  /-- MAP, R399. -/
  | map (a : AcNum) (e : AddrFields)
  /-- PUSHJ, R317. -/
  | pushj (a : AcNum) (e : AddrFields)
  /-- PUSH, R315. -/
  | push (a : AcNum) (e : AddrFields)
  /-- POP, R316. -/
  | pop (a : AcNum) (e : AddrFields)
  /-- POPJ, R319. -/
  | popj (a : AcNum) (e : AddrFields)
  /-- JSR, R277. -/
  | jsr (a : AcNum) (e : AddrFields)
  /-- JSP, R276. -/
  | jsp (a : AcNum) (e : AddrFields)
  /-- JSA, R280. -/
  | jsa (a : AcNum) (e : AddrFields)
  /-- JRA, R281. -/
  | jra (a : AcNum) (e : AddrFields)
  /-- ADD, R403. -/
  | add (a : AcNum) (e : AddrFields)
  /-- ADDI, R403. -/
  | addi (a : AcNum) (e : AddrFields)
  /-- ADDM, R403. -/
  | addm (a : AcNum) (e : AddrFields)
  /-- ADDB, R403. -/
  | addb (a : AcNum) (e : AddrFields)
  /-- SUB, R403. -/
  | sub (a : AcNum) (e : AddrFields)
  /-- SUBI, R403. -/
  | subi (a : AcNum) (e : AddrFields)
  /-- SUBM, R403. -/
  | subm (a : AcNum) (e : AddrFields)
  /-- SUBB, R403. -/
  | subb (a : AcNum) (e : AddrFields)
  /-- CAI, R407. -/
  | cai (a : AcNum) (e : AddrFields)
  /-- CAIL, R407. -/
  | cail (a : AcNum) (e : AddrFields)
  /-- CAIE, R407. -/
  | caie (a : AcNum) (e : AddrFields)
  /-- CAILE, R407. -/
  | caile (a : AcNum) (e : AddrFields)
  /-- CAIA, R407. -/
  | caia (a : AcNum) (e : AddrFields)
  /-- CAIGE, R407. -/
  | caige (a : AcNum) (e : AddrFields)
  /-- CAIN, R407. -/
  | cain (a : AcNum) (e : AddrFields)
  /-- CAIG, R407. -/
  | caig (a : AcNum) (e : AddrFields)
  /-- CAM, R407. -/
  | cam (a : AcNum) (e : AddrFields)
  /-- CAML, R407. -/
  | caml (a : AcNum) (e : AddrFields)
  /-- CAME, R407. -/
  | came (a : AcNum) (e : AddrFields)
  /-- CAMLE, R407. -/
  | camle (a : AcNum) (e : AddrFields)
  /-- CAMA, R407. -/
  | cama (a : AcNum) (e : AddrFields)
  /-- CAMGE, R407. -/
  | camge (a : AcNum) (e : AddrFields)
  /-- CAMN, R407. -/
  | camn (a : AcNum) (e : AddrFields)
  /-- CAMG, R407. -/
  | camg (a : AcNum) (e : AddrFields)
  /-- JUMP, R283. -/
  | jump (a : AcNum) (e : AddrFields)
  /-- JUMPL, R283. -/
  | jumpl (a : AcNum) (e : AddrFields)
  /-- JUMPE, R283. -/
  | jumpe (a : AcNum) (e : AddrFields)
  /-- JUMPLE, R283. -/
  | jumple (a : AcNum) (e : AddrFields)
  /-- JUMPA, R283. -/
  | jumpa (a : AcNum) (e : AddrFields)
  /-- JUMPGE, R283. -/
  | jumpge (a : AcNum) (e : AddrFields)
  /-- JUMPN, R283. -/
  | jumpn (a : AcNum) (e : AddrFields)
  /-- JUMPG, R283. -/
  | jumpg (a : AcNum) (e : AddrFields)
  /-- SKIP, R407. -/
  | skip (a : AcNum) (e : AddrFields)
  /-- SKIPL, R407. -/
  | skipl (a : AcNum) (e : AddrFields)
  /-- SKIPE, R407. -/
  | skipe (a : AcNum) (e : AddrFields)
  /-- SKIPLE, R407. -/
  | skiple (a : AcNum) (e : AddrFields)
  /-- SKIPA, R397. -/
  | skipa (a : AcNum) (e : AddrFields)
  /-- SKIPGE, R407. -/
  | skipge (a : AcNum) (e : AddrFields)
  /-- SKIPN, R407. -/
  | skipn (a : AcNum) (e : AddrFields)
  /-- SKIPG, R407. -/
  | skipg (a : AcNum) (e : AddrFields)
  /-- AOJ, R283. -/
  | aoj (a : AcNum) (e : AddrFields)
  /-- AOJL, R283. -/
  | aojl (a : AcNum) (e : AddrFields)
  /-- AOJE, R283. -/
  | aoje (a : AcNum) (e : AddrFields)
  /-- AOJLE, R283. -/
  | aojle (a : AcNum) (e : AddrFields)
  /-- AOJA, R283. -/
  | aoja (a : AcNum) (e : AddrFields)
  /-- AOJGE, R283. -/
  | aojge (a : AcNum) (e : AddrFields)
  /-- AOJN, R283. -/
  | aojn (a : AcNum) (e : AddrFields)
  /-- AOJG, R283. -/
  | aojg (a : AcNum) (e : AddrFields)
  /-- AOS, R407. -/
  | aos (a : AcNum) (e : AddrFields)
  /-- AOSL, R407. -/
  | aosl (a : AcNum) (e : AddrFields)
  /-- AOSE, R407. -/
  | aose (a : AcNum) (e : AddrFields)
  /-- AOSLE, R407. -/
  | aosle (a : AcNum) (e : AddrFields)
  /-- AOSA, R407. -/
  | aosa (a : AcNum) (e : AddrFields)
  /-- AOSGE, R407. -/
  | aosge (a : AcNum) (e : AddrFields)
  /-- AOSN, R407. -/
  | aosn (a : AcNum) (e : AddrFields)
  /-- AOSG, R407. -/
  | aosg (a : AcNum) (e : AddrFields)
  /-- SOJ, R283. -/
  | soj (a : AcNum) (e : AddrFields)
  /-- SOJL, R283. -/
  | sojl (a : AcNum) (e : AddrFields)
  /-- SOJE, R283. -/
  | soje (a : AcNum) (e : AddrFields)
  /-- SOJLE, R283. -/
  | sojle (a : AcNum) (e : AddrFields)
  /-- SOJA, R283. -/
  | soja (a : AcNum) (e : AddrFields)
  /-- SOJGE, R283. -/
  | sojge (a : AcNum) (e : AddrFields)
  /-- SOJN, R283. -/
  | sojn (a : AcNum) (e : AddrFields)
  /-- SOJG, R283. -/
  | sojg (a : AcNum) (e : AddrFields)
  /-- SOS, R407. -/
  | sos (a : AcNum) (e : AddrFields)
  /-- SOSL, R407. -/
  | sosl (a : AcNum) (e : AddrFields)
  /-- SOSE, R407. -/
  | sose (a : AcNum) (e : AddrFields)
  /-- SOSLE, R407. -/
  | sosle (a : AcNum) (e : AddrFields)
  /-- SOSA, R407. -/
  | sosa (a : AcNum) (e : AddrFields)
  /-- SOSGE, R407. -/
  | sosge (a : AcNum) (e : AddrFields)
  /-- SOSN, R407. -/
  | sosn (a : AcNum) (e : AddrFields)
  /-- SOSG, R407. -/
  | sosg (a : AcNum) (e : AddrFields)
  /-- SETZ, R404. -/
  | setz (a : AcNum) (e : AddrFields)
  /-- SETZI, R404. -/
  | setzi (a : AcNum) (e : AddrFields)
  /-- SETZM, R404. -/
  | setzm (a : AcNum) (e : AddrFields)
  /-- SETZB, R396. -/
  | setzb (a : AcNum) (e : AddrFields)
  /-- AND, R404. -/
  | and (a : AcNum) (e : AddrFields)
  /-- ANDI, R404. -/
  | andi (a : AcNum) (e : AddrFields)
  /-- ANDM, R404. -/
  | andm (a : AcNum) (e : AddrFields)
  /-- ANDB, R404. -/
  | andb (a : AcNum) (e : AddrFields)
  /-- ANDCA, R404. -/
  | andca (a : AcNum) (e : AddrFields)
  /-- ANDCAI, R404. -/
  | andcai (a : AcNum) (e : AddrFields)
  /-- ANDCAM, R404. -/
  | andcam (a : AcNum) (e : AddrFields)
  /-- ANDCAB, R404. -/
  | andcab (a : AcNum) (e : AddrFields)
  /-- SETM, R404. -/
  | setm (a : AcNum) (e : AddrFields)
  /-- XMOVEI, R391. -/
  | xmovei (a : AcNum) (e : AddrFields)
  /-- SETMM, R404. -/
  | setmm (a : AcNum) (e : AddrFields)
  /-- SETMB, R404. -/
  | setmb (a : AcNum) (e : AddrFields)
  /-- ANDCM, R404. -/
  | andcm (a : AcNum) (e : AddrFields)
  /-- ANDCMI, R404. -/
  | andcmi (a : AcNum) (e : AddrFields)
  /-- ANDCMM, R404. -/
  | andcmm (a : AcNum) (e : AddrFields)
  /-- ANDCMB, R404. -/
  | andcmb (a : AcNum) (e : AddrFields)
  /-- SETA, R404. -/
  | seta (a : AcNum) (e : AddrFields)
  /-- SETAI, R404. -/
  | setai (a : AcNum) (e : AddrFields)
  /-- SETAM, R404. -/
  | setam (a : AcNum) (e : AddrFields)
  /-- SETAB, R404. -/
  | setab (a : AcNum) (e : AddrFields)
  /-- XOR, R404. -/
  | xor (a : AcNum) (e : AddrFields)
  /-- XORI, R404. -/
  | xori (a : AcNum) (e : AddrFields)
  /-- XORM, R404. -/
  | xorm (a : AcNum) (e : AddrFields)
  /-- XORB, R404. -/
  | xorb (a : AcNum) (e : AddrFields)
  /-- IOR, R404. -/
  | ior (a : AcNum) (e : AddrFields)
  /-- IORI, R404. -/
  | iori (a : AcNum) (e : AddrFields)
  /-- IORM, R404. -/
  | iorm (a : AcNum) (e : AddrFields)
  /-- IORB, R404. -/
  | iorb (a : AcNum) (e : AddrFields)
  /-- ANDCB, R404. -/
  | andcb (a : AcNum) (e : AddrFields)
  /-- ANDCBI, R404. -/
  | andcbi (a : AcNum) (e : AddrFields)
  /-- ANDCBM, R404. -/
  | andcbm (a : AcNum) (e : AddrFields)
  /-- ANDCBB, R404. -/
  | andcbb (a : AcNum) (e : AddrFields)
  /-- EQV, R404. -/
  | eqv (a : AcNum) (e : AddrFields)
  /-- EQVI, R404. -/
  | eqvi (a : AcNum) (e : AddrFields)
  /-- EQVM, R404. -/
  | eqvm (a : AcNum) (e : AddrFields)
  /-- EQVB, R404. -/
  | eqvb (a : AcNum) (e : AddrFields)
  /-- SETCA, R404. -/
  | setca (a : AcNum) (e : AddrFields)
  /-- SETCAI, R404. -/
  | setcai (a : AcNum) (e : AddrFields)
  /-- SETCAM, R404. -/
  | setcam (a : AcNum) (e : AddrFields)
  /-- SETCAB, R404. -/
  | setcab (a : AcNum) (e : AddrFields)
  /-- ORCA, R404. -/
  | orca (a : AcNum) (e : AddrFields)
  /-- ORCAI, R404. -/
  | orcai (a : AcNum) (e : AddrFields)
  /-- ORCAM, R404. -/
  | orcam (a : AcNum) (e : AddrFields)
  /-- ORCAB, R404. -/
  | orcab (a : AcNum) (e : AddrFields)
  /-- SETCM, R404. -/
  | setcm (a : AcNum) (e : AddrFields)
  /-- SETCMI, R404. -/
  | setcmi (a : AcNum) (e : AddrFields)
  /-- SETCMM, R404. -/
  | setcmm (a : AcNum) (e : AddrFields)
  /-- SETCMB, R404. -/
  | setcmb (a : AcNum) (e : AddrFields)
  /-- ORCM, R404. -/
  | orcm (a : AcNum) (e : AddrFields)
  /-- ORCMI, R404. -/
  | orcmi (a : AcNum) (e : AddrFields)
  /-- ORCMM, R404. -/
  | orcmm (a : AcNum) (e : AddrFields)
  /-- ORCMB, R404. -/
  | orcmb (a : AcNum) (e : AddrFields)
  /-- ORCB, R404. -/
  | orcb (a : AcNum) (e : AddrFields)
  /-- ORCBI, R404. -/
  | orcbi (a : AcNum) (e : AddrFields)
  /-- ORCBM, R404. -/
  | orcbm (a : AcNum) (e : AddrFields)
  /-- ORCBB, R404. -/
  | orcbb (a : AcNum) (e : AddrFields)
  /-- SETO, R404. -/
  | seto (a : AcNum) (e : AddrFields)
  /-- SETOI, R404. -/
  | setoi (a : AcNum) (e : AddrFields)
  /-- SETOM, R404. -/
  | setom (a : AcNum) (e : AddrFields)
  /-- SETOB, R404. -/
  | setob (a : AcNum) (e : AddrFields)
  /-- HLL, R402. -/
  | hll (a : AcNum) (e : AddrFields)
  /-- XHLLI, R392. -/
  | xhlli (a : AcNum) (e : AddrFields)
  /-- HLLM, R402. -/
  | hllm (a : AcNum) (e : AddrFields)
  /-- HLLS, R402. -/
  | hlls (a : AcNum) (e : AddrFields)
  /-- HRL, R402. -/
  | hrl (a : AcNum) (e : AddrFields)
  /-- HRLI, R402. -/
  | hrli (a : AcNum) (e : AddrFields)
  /-- HRLM, R402. -/
  | hrlm (a : AcNum) (e : AddrFields)
  /-- HRLS, R402. -/
  | hrls (a : AcNum) (e : AddrFields)
  /-- HLLZ, R402. -/
  | hllz (a : AcNum) (e : AddrFields)
  /-- HLLZI, R402. -/
  | hllzi (a : AcNum) (e : AddrFields)
  /-- HLLZM, R402. -/
  | hllzm (a : AcNum) (e : AddrFields)
  /-- HLLZS, R402. -/
  | hllzs (a : AcNum) (e : AddrFields)
  /-- HRLZ, R402. -/
  | hrlz (a : AcNum) (e : AddrFields)
  /-- HRLZI, R402. -/
  | hrlzi (a : AcNum) (e : AddrFields)
  /-- HRLZM, R402. -/
  | hrlzm (a : AcNum) (e : AddrFields)
  /-- HRLZS, R402. -/
  | hrlzs (a : AcNum) (e : AddrFields)
  /-- HLLO, R402. -/
  | hllo (a : AcNum) (e : AddrFields)
  /-- HLLOI, R402. -/
  | hlloi (a : AcNum) (e : AddrFields)
  /-- HLLOM, R402. -/
  | hllom (a : AcNum) (e : AddrFields)
  /-- HLLOS, R402. -/
  | hllos (a : AcNum) (e : AddrFields)
  /-- HRLO, R402. -/
  | hrlo (a : AcNum) (e : AddrFields)
  /-- HRLOI, R402. -/
  | hrloi (a : AcNum) (e : AddrFields)
  /-- HRLOM, R402. -/
  | hrlom (a : AcNum) (e : AddrFields)
  /-- HRLOS, R402. -/
  | hrlos (a : AcNum) (e : AddrFields)
  /-- HLLE, R402. -/
  | hlle (a : AcNum) (e : AddrFields)
  /-- HLLEI, R402. -/
  | hllei (a : AcNum) (e : AddrFields)
  /-- HLLEM, R402. -/
  | hllem (a : AcNum) (e : AddrFields)
  /-- HLLES, R402. -/
  | hlles (a : AcNum) (e : AddrFields)
  /-- HRLE, R402. -/
  | hrle (a : AcNum) (e : AddrFields)
  /-- HRLEI, R402. -/
  | hrlei (a : AcNum) (e : AddrFields)
  /-- HRLEM, R402. -/
  | hrlem (a : AcNum) (e : AddrFields)
  /-- HRLES, R402. -/
  | hrles (a : AcNum) (e : AddrFields)
  /-- HRR, R402. -/
  | hrr (a : AcNum) (e : AddrFields)
  /-- HRRI, R402. -/
  | hrri (a : AcNum) (e : AddrFields)
  /-- HRRM, R402. -/
  | hrrm (a : AcNum) (e : AddrFields)
  /-- HRRS, R402. -/
  | hrrs (a : AcNum) (e : AddrFields)
  /-- HLR, R402. -/
  | hlr (a : AcNum) (e : AddrFields)
  /-- HLRI, R402. -/
  | hlri (a : AcNum) (e : AddrFields)
  /-- HLRM, R402. -/
  | hlrm (a : AcNum) (e : AddrFields)
  /-- HLRS, R402. -/
  | hlrs (a : AcNum) (e : AddrFields)
  /-- HRRZ, R402. -/
  | hrrz (a : AcNum) (e : AddrFields)
  /-- HRRZI, R402. -/
  | hrrzi (a : AcNum) (e : AddrFields)
  /-- HRRZM, R402. -/
  | hrrzm (a : AcNum) (e : AddrFields)
  /-- HRRZS, R402. -/
  | hrrzs (a : AcNum) (e : AddrFields)
  /-- HLRZ, R402. -/
  | hlrz (a : AcNum) (e : AddrFields)
  /-- HLRZI, R402. -/
  | hlrzi (a : AcNum) (e : AddrFields)
  /-- HLRZM, R402. -/
  | hlrzm (a : AcNum) (e : AddrFields)
  /-- HLRZS, R402. -/
  | hlrzs (a : AcNum) (e : AddrFields)
  /-- HRRO, R402. -/
  | hrro (a : AcNum) (e : AddrFields)
  /-- HRROI, R402. -/
  | hrroi (a : AcNum) (e : AddrFields)
  /-- HRROM, R402. -/
  | hrrom (a : AcNum) (e : AddrFields)
  /-- HRROS, R402. -/
  | hrros (a : AcNum) (e : AddrFields)
  /-- HLRO, R402. -/
  | hlro (a : AcNum) (e : AddrFields)
  /-- HLROI, R402. -/
  | hlroi (a : AcNum) (e : AddrFields)
  /-- HLROM, R402. -/
  | hlrom (a : AcNum) (e : AddrFields)
  /-- HLROS, R402. -/
  | hlros (a : AcNum) (e : AddrFields)
  /-- HRRE, R402. -/
  | hrre (a : AcNum) (e : AddrFields)
  /-- HRREI, R402. -/
  | hrrei (a : AcNum) (e : AddrFields)
  /-- HRREM, R402. -/
  | hrrem (a : AcNum) (e : AddrFields)
  /-- HRRES, R402. -/
  | hrres (a : AcNum) (e : AddrFields)
  /-- HLRE, R402. -/
  | hlre (a : AcNum) (e : AddrFields)
  /-- HLREI, R402. -/
  | hlrei (a : AcNum) (e : AddrFields)
  /-- HLREM, R402. -/
  | hlrem (a : AcNum) (e : AddrFields)
  /-- HLRES, R402. -/
  | hlres (a : AcNum) (e : AddrFields)
  /-- TRN, R407. -/
  | trn (a : AcNum) (e : AddrFields)
  /-- TLN, R407. -/
  | tln (a : AcNum) (e : AddrFields)
  /-- TRNE, R407. -/
  | trne (a : AcNum) (e : AddrFields)
  /-- TLNE, R407. -/
  | tlne (a : AcNum) (e : AddrFields)
  /-- TRNA, R407. -/
  | trna (a : AcNum) (e : AddrFields)
  /-- TLNA, R407. -/
  | tlna (a : AcNum) (e : AddrFields)
  /-- TRNN, R407. -/
  | trnn (a : AcNum) (e : AddrFields)
  /-- TLNN, R407. -/
  | tlnn (a : AcNum) (e : AddrFields)
  /-- TDN, R407. -/
  | tdn (a : AcNum) (e : AddrFields)
  /-- TSN, R407. -/
  | tsn (a : AcNum) (e : AddrFields)
  /-- TDNE, R407. -/
  | tdne (a : AcNum) (e : AddrFields)
  /-- TSNE, R407. -/
  | tsne (a : AcNum) (e : AddrFields)
  /-- TDNA, R407. -/
  | tdna (a : AcNum) (e : AddrFields)
  /-- TSNA, R407. -/
  | tsna (a : AcNum) (e : AddrFields)
  /-- TDNN, R407. -/
  | tdnn (a : AcNum) (e : AddrFields)
  /-- TSNN, R407. -/
  | tsnn (a : AcNum) (e : AddrFields)
  /-- TRZ, R407. -/
  | trz (a : AcNum) (e : AddrFields)
  /-- TLZ, R407. -/
  | tlz (a : AcNum) (e : AddrFields)
  /-- TRZE, R407. -/
  | trze (a : AcNum) (e : AddrFields)
  /-- TLZE, R407. -/
  | tlze (a : AcNum) (e : AddrFields)
  /-- TRZA, R407. -/
  | trza (a : AcNum) (e : AddrFields)
  /-- TLZA, R407. -/
  | tlza (a : AcNum) (e : AddrFields)
  /-- TRZN, R407. -/
  | trzn (a : AcNum) (e : AddrFields)
  /-- TLZN, R407. -/
  | tlzn (a : AcNum) (e : AddrFields)
  /-- TDZ, R407. -/
  | tdz (a : AcNum) (e : AddrFields)
  /-- TSZ, R407. -/
  | tsz (a : AcNum) (e : AddrFields)
  /-- TDZE, R407. -/
  | tdze (a : AcNum) (e : AddrFields)
  /-- TSZE, R407. -/
  | tsze (a : AcNum) (e : AddrFields)
  /-- TDZA, R407. -/
  | tdza (a : AcNum) (e : AddrFields)
  /-- TSZA, R407. -/
  | tsza (a : AcNum) (e : AddrFields)
  /-- TDZN, R407. -/
  | tdzn (a : AcNum) (e : AddrFields)
  /-- TSZN, R407. -/
  | tszn (a : AcNum) (e : AddrFields)
  /-- TRC, R407. -/
  | trc (a : AcNum) (e : AddrFields)
  /-- TLC, R407. -/
  | tlc (a : AcNum) (e : AddrFields)
  /-- TRCE, R407. -/
  | trce (a : AcNum) (e : AddrFields)
  /-- TLCE, R407. -/
  | tlce (a : AcNum) (e : AddrFields)
  /-- TRCA, R407. -/
  | trca (a : AcNum) (e : AddrFields)
  /-- TLCA, R407. -/
  | tlca (a : AcNum) (e : AddrFields)
  /-- TRCN, R407. -/
  | trcn (a : AcNum) (e : AddrFields)
  /-- TLCN, R407. -/
  | tlcn (a : AcNum) (e : AddrFields)
  /-- TDC, R407. -/
  | tdc (a : AcNum) (e : AddrFields)
  /-- TSC, R407. -/
  | tsc (a : AcNum) (e : AddrFields)
  /-- TDCE, R407. -/
  | tdce (a : AcNum) (e : AddrFields)
  /-- TSCE, R407. -/
  | tsce (a : AcNum) (e : AddrFields)
  /-- TDCA, R407. -/
  | tdca (a : AcNum) (e : AddrFields)
  /-- TSCA, R407. -/
  | tsca (a : AcNum) (e : AddrFields)
  /-- TDCN, R407. -/
  | tdcn (a : AcNum) (e : AddrFields)
  /-- TSCN, R407. -/
  | tscn (a : AcNum) (e : AddrFields)
  /-- TRO, R407. -/
  | tro (a : AcNum) (e : AddrFields)
  /-- TLO, R407. -/
  | tlo (a : AcNum) (e : AddrFields)
  /-- TROE, R407. -/
  | troe (a : AcNum) (e : AddrFields)
  /-- TLOE, R407. -/
  | tloe (a : AcNum) (e : AddrFields)
  /-- TROA, R407. -/
  | troa (a : AcNum) (e : AddrFields)
  /-- TLOA, R407. -/
  | tloa (a : AcNum) (e : AddrFields)
  /-- TRON, R407. -/
  | tron (a : AcNum) (e : AddrFields)
  /-- TLON, R407. -/
  | tlon (a : AcNum) (e : AddrFields)
  /-- TDO, R407. -/
  | tdo (a : AcNum) (e : AddrFields)
  /-- TSO, R407. -/
  | tso (a : AcNum) (e : AddrFields)
  /-- TDOE, R407. -/
  | tdoe (a : AcNum) (e : AddrFields)
  /-- TSOE, R407. -/
  | tsoe (a : AcNum) (e : AddrFields)
  /-- TDOA, R407. -/
  | tdoa (a : AcNum) (e : AddrFields)
  /-- TSOA, R407. -/
  | tsoa (a : AcNum) (e : AddrFields)
  /-- TDON, R407. -/
  | tdon (a : AcNum) (e : AddrFields)
  /-- TSON, R407. -/
  | tson (a : AcNum) (e : AddrFields)
  /-- IO, R409. -/
  | io (r : BitVec 33)
  /-- CMPSL, R242. -/
  | cmpsl (a : AcNum) (e0 : EA) (z : BitVec 4) (e : AddrFields)
  /-- CMPSE, R242. -/
  | cmpse (a : AcNum) (e0 : EA) (z : BitVec 4) (e : AddrFields)
  /-- CMPSLE, R242. -/
  | cmpsle (a : AcNum) (e0 : EA) (z : BitVec 4) (e : AddrFields)
  /-- EDIT, R245. -/
  | edit (a : AcNum) (e0 : EA) (z : BitVec 4) (e : AddrFields)
  /-- CMPSGE, R242. -/
  | cmpsge (a : AcNum) (e0 : EA) (z : BitVec 4) (e : AddrFields)
  /-- CMPSN, R242. -/
  | cmpsn (a : AcNum) (e0 : EA) (z : BitVec 4) (e : AddrFields)
  /-- CMPSG, R242. -/
  | cmpsg (a : AcNum) (e0 : EA) (z : BitVec 4) (e : AddrFields)
  /-- CVTDBO, R244. -/
  | cvtdbo (a : AcNum) (e0 : EA) (z : BitVec 4) (e : AddrFields)
  /-- CVTDBT, R244. -/
  | cvtdbt (a : AcNum) (e0 : EA) (z : BitVec 4) (e : AddrFields)
  /-- CVTBDO, R244. -/
  | cvtbdo (a : AcNum) (e0 : EA) (z : BitVec 4) (e : AddrFields)
  /-- CVTBDT, R244. -/
  | cvtbdt (a : AcNum) (e0 : EA) (z : BitVec 4) (e : AddrFields)
  /-- MOVSO, R241. -/
  | movso (a : AcNum) (e0 : EA) (z : BitVec 4) (e : AddrFields)
  /-- MOVST, R240. -/
  | movst (a : AcNum) (e0 : EA) (z : BitVec 4) (e : AddrFields)
  /-- MOVSLJ, R239. -/
  | movslj (a : AcNum) (e0 : EA) (z : BitVec 4) (e : AddrFields)
  /-- MOVSRJ, R241. -/
  | movsrj (a : AcNum) (e0 : EA) (z : BitVec 4) (e : AddrFields)
  /-- XBLT, R370. -/
  | xblt (a : AcNum) (e0 : EA) (z : BitVec 4) (e : AddrFields)
deriving DecidableEq, Repr

end Sys2Proof
end

