-- ==== Sys2Proof/WellFormed.lean ====
section
/-! DEFINITION. Well-formed instructions. Every field of `Instr` is at its exact width, so one check is left: the control
field of a PXCT is not zero, since XCT with a zero AC field is the ordinary XCT (30_encoding.md R116, R121). -/

namespace Sys2Proof

/-- The instruction is one the encoding can hold (R116). -/
def Instr.wellFormed (i : Instr) : Bool :=
  match i with
  | .pxct n _ => n != 0
  | _ => true

/-- The AC field of the EXTEND behind an extended instruction, and `none` for an instruction word (R117). -/
def Instr.extendAc (i : Instr) : Option AcNum :=
  match i with
  | .cmpsl a _ _ _ => some a
  | .cmpse a _ _ _ => some a
  | .cmpsle a _ _ _ => some a
  | .edit a _ _ _ => some a
  | .cmpsge a _ _ _ => some a
  | .cmpsn a _ _ _ => some a
  | .cmpsg a _ _ _ => some a
  | .cvtdbo a _ _ _ => some a
  | .cvtdbt a _ _ _ => some a
  | .cvtbdo a _ _ _ => some a
  | .cvtbdt a _ _ _ => some a
  | .movso a _ _ _ => some a
  | .movst a _ _ _ => some a
  | .movslj a _ _ _ => some a
  | .movsrj a _ _ _ => some a
  | .xblt a _ _ _ => some a
  | _ => none

end Sys2Proof
end

