-- ==== Sys2Proof/Decode.lean ====
section
/-! DEFINITION. The decoder and the encoder, from the opcode map of spec/30_encoding.md (R100, R116, R117, R121, R122) and
spec/opcode_table.json: the parameter OPCODES at its default (log 9). Every one of the 512 values of bits 0-8 is some row's, so
every 36-bit word decodes; what is no 36-bit word is rejected by name (`DecodeError`). -/

namespace Sys2Proof

open Sys2Proof.Machine

/-! Lean's code generator has no constructor tag above 244, and the table needs 450 constructors; so the definitions that build
an `Instr` carry no compiled code. Their values, their proofs and the kernel's evaluation of them are unaffected. -/
noncomputable section

/-- Why a sequence of bytes is not an instruction word. -/
inductive DecodeError where
  /-- more than 36 bits are set: an instruction is one 36-bit word (R100, R101) -/
  | widerThanAWord
  /-- fewer than 36 bits were given -/
  | shorterThanAWord
deriving DecidableEq, Repr

/-- The address part of a word read as an instruction or an IFIW (R100, R102). -/
def fieldsOf (w : Word) : AddrFields := ⟨ifiwI w, ifiwX w, ifiwY w⟩

/-- The instruction word of an opcode, an AC field and an address part (R126). -/
def instrWord (op : BitVec 9) (a : AcNum) (e : AddrFields) : Word := packWord op a e.i e.x e.y

/-- The functions of opcode 254, selected by the AC field (R122). -/
def decodeJrst (f : Nat) (e : AddrFields) : Instr :=
  match f with
  | 0o00 => .jrst e
  | 0o01 => .portal e
  | 0o02 => .jrstf e
  | 0o03 => .muuoJrst03 e
  | 0o04 => .halt e
  | 0o05 => .xjrstf e
  | 0o06 => .xjen e
  | 0o07 => .xpcw e
  | 0o10 => .jrst10 e
  | 0o11 => .muuoJrst11 e
  | 0o12 => .jen e
  | 0o13 => .muuoJrst13 e
  | 0o14 => .sfm e
  | 0o15 => .xjrst e
  | 0o16 => .muuoJrst16 e
  | _ => .muuoJrst17 e

/-- Opcodes 000 to 037 (R340, R346); `n` is the opcode. -/
def decodeOp0 (n : Nat) (a : AcNum) (e : AddrFields) : Instr :=
  match n with
  | 0o00 => .muuo000 a e
  | 0o01 => .luuo01 a e
  | 0o02 => .luuo02 a e
  | 0o03 => .luuo03 a e
  | 0o04 => .luuo04 a e
  | 0o05 => .luuo05 a e
  | 0o06 => .luuo06 a e
  | 0o07 => .luuo07 a e
  | 0o10 => .luuo10 a e
  | 0o11 => .luuo11 a e
  | 0o12 => .luuo12 a e
  | 0o13 => .luuo13 a e
  | 0o14 => .luuo14 a e
  | 0o15 => .luuo15 a e
  | 0o16 => .luuo16 a e
  | 0o17 => .luuo17 a e
  | 0o20 => .luuo20 a e
  | 0o21 => .luuo21 a e
  | 0o22 => .luuo22 a e
  | 0o23 => .luuo23 a e
  | 0o24 => .luuo24 a e
  | 0o25 => .luuo25 a e
  | 0o26 => .luuo26 a e
  | 0o27 => .luuo27 a e
  | 0o30 => .luuo30 a e
  | 0o31 => .luuo31 a e
  | 0o32 => .luuo32 a e
  | 0o33 => .luuo33 a e
  | 0o34 => .luuo34 a e
  | 0o35 => .luuo35 a e
  | 0o36 => .luuo36 a e
  | _ => .luuo37 a e

/-- Opcodes 100 to 177; `n` is the low two octal digits (R121). -/
def decodeOp1 (n : Nat) (a : AcNum) (e : AddrFields) : Instr :=
  match n with
  | 0o00 => .muuo100 a e
  | 0o01 => .muuo101 a e
  | 0o02 => .muuo102 a e
  | 0o03 => .muuo103 a e
  | 0o04 => .jsys a e
  | 0o05 => .adjsp a e
  | 0o06 => .muuo106 a e
  | 0o07 => .muuo107 a e
  | 0o10 => .dfad a e
  | 0o11 => .dfsb a e
  | 0o12 => .dfmp a e
  | 0o13 => .dfdv a e
  | 0o14 => .dadd a e
  | 0o15 => .dsub a e
  | 0o16 => .dmul a e
  | 0o17 => .ddiv a e
  | 0o20 => .dmove a e
  | 0o21 => .dmovn a e
  | 0o22 => .fix a e
  | 0o23 => .extend a e
  | 0o24 => .dmovem a e
  | 0o25 => .dmovnm a e
  | 0o26 => .fixr a e
  | 0o27 => .fltr a e
  | 0o30 => .ufa a e
  | 0o31 => .dfn a e
  | 0o32 => .fsc a e
  | 0o33 => .ibp a e
  | 0o34 => .ildb a e
  | 0o35 => .ldb a e
  | 0o36 => .idpb a e
  | 0o37 => .dpb a e
  | 0o40 => .fad a e
  | 0o41 => .muuo141 a e
  | 0o42 => .fadm a e
  | 0o43 => .fadb a e
  | 0o44 => .fadr a e
  | 0o45 => .fadri a e
  | 0o46 => .fadrm a e
  | 0o47 => .fadrb a e
  | 0o50 => .fsb a e
  | 0o51 => .muuo151 a e
  | 0o52 => .fsbm a e
  | 0o53 => .fsbb a e
  | 0o54 => .fsbr a e
  | 0o55 => .fsbri a e
  | 0o56 => .fsbrm a e
  | 0o57 => .fsbrb a e
  | 0o60 => .fmp a e
  | 0o61 => .muuo161 a e
  | 0o62 => .fmpm a e
  | 0o63 => .fmpb a e
  | 0o64 => .fmpr a e
  | 0o65 => .fmpri a e
  | 0o66 => .fmprm a e
  | 0o67 => .fmprb a e
  | 0o70 => .fdv a e
  | 0o71 => .muuo171 a e
  | 0o72 => .fdvm a e
  | 0o73 => .fdvb a e
  | 0o74 => .fdvr a e
  | 0o75 => .fdvri a e
  | 0o76 => .fdvrm a e
  | _ => .fdvrb a e

/-- Opcodes 200 to 277; `n` is the low two octal digits (R121). -/
def decodeOp2 (n : Nat) (a : AcNum) (e : AddrFields) : Instr :=
  match n with
  | 0o00 => .move a e
  | 0o01 => .movei a e
  | 0o02 => .movem a e
  | 0o03 => .moves a e
  | 0o04 => .movs a e
  | 0o05 => .movsi a e
  | 0o06 => .movsm a e
  | 0o07 => .movss a e
  | 0o10 => .movn a e
  | 0o11 => .movni a e
  | 0o12 => .movnm a e
  | 0o13 => .movns a e
  | 0o14 => .movm a e
  | 0o15 => .movmi a e
  | 0o16 => .movmm a e
  | 0o17 => .movms a e
  | 0o20 => .imul a e
  | 0o21 => .imuli a e
  | 0o22 => .imulm a e
  | 0o23 => .imulb a e
  | 0o24 => .mul a e
  | 0o25 => .muli a e
  | 0o26 => .mulm a e
  | 0o27 => .mulb a e
  | 0o30 => .idiv a e
  | 0o31 => .idivi a e
  | 0o32 => .idivm a e
  | 0o33 => .idivb a e
  | 0o34 => .div a e
  | 0o35 => .divi a e
  | 0o36 => .divm a e
  | 0o37 => .divb a e
  | 0o40 => .ash a e
  | 0o41 => .rot a e
  | 0o42 => .lsh a e
  | 0o43 => .jffo a e
  | 0o44 => .ashc a e
  | 0o45 => .rotc a e
  | 0o46 => .lshc a e
  | 0o47 => .muuo247 a e
  | 0o50 => .exch a e
  | 0o51 => .blt a e
  | 0o52 => .aobjp a e
  | 0o53 => .aobjn a e
  | 0o54 => decodeJrst a.toNat e
  | 0o55 => .jfcl a e
  | 0o56 => if a = 0 then .xct e else .pxct a e
  | 0o57 => .map a e
  | 0o60 => .pushj a e
  | 0o61 => .push a e
  | 0o62 => .pop a e
  | 0o63 => .popj a e
  | 0o64 => .jsr a e
  | 0o65 => .jsp a e
  | 0o66 => .jsa a e
  | 0o67 => .jra a e
  | 0o70 => .add a e
  | 0o71 => .addi a e
  | 0o72 => .addm a e
  | 0o73 => .addb a e
  | 0o74 => .sub a e
  | 0o75 => .subi a e
  | 0o76 => .subm a e
  | _ => .subb a e

/-- Opcodes 300 to 377; `n` is the low two octal digits (R121). -/
def decodeOp3 (n : Nat) (a : AcNum) (e : AddrFields) : Instr :=
  match n with
  | 0o00 => .cai a e
  | 0o01 => .cail a e
  | 0o02 => .caie a e
  | 0o03 => .caile a e
  | 0o04 => .caia a e
  | 0o05 => .caige a e
  | 0o06 => .cain a e
  | 0o07 => .caig a e
  | 0o10 => .cam a e
  | 0o11 => .caml a e
  | 0o12 => .came a e
  | 0o13 => .camle a e
  | 0o14 => .cama a e
  | 0o15 => .camge a e
  | 0o16 => .camn a e
  | 0o17 => .camg a e
  | 0o20 => .jump a e
  | 0o21 => .jumpl a e
  | 0o22 => .jumpe a e
  | 0o23 => .jumple a e
  | 0o24 => .jumpa a e
  | 0o25 => .jumpge a e
  | 0o26 => .jumpn a e
  | 0o27 => .jumpg a e
  | 0o30 => .skip a e
  | 0o31 => .skipl a e
  | 0o32 => .skipe a e
  | 0o33 => .skiple a e
  | 0o34 => .skipa a e
  | 0o35 => .skipge a e
  | 0o36 => .skipn a e
  | 0o37 => .skipg a e
  | 0o40 => .aoj a e
  | 0o41 => .aojl a e
  | 0o42 => .aoje a e
  | 0o43 => .aojle a e
  | 0o44 => .aoja a e
  | 0o45 => .aojge a e
  | 0o46 => .aojn a e
  | 0o47 => .aojg a e
  | 0o50 => .aos a e
  | 0o51 => .aosl a e
  | 0o52 => .aose a e
  | 0o53 => .aosle a e
  | 0o54 => .aosa a e
  | 0o55 => .aosge a e
  | 0o56 => .aosn a e
  | 0o57 => .aosg a e
  | 0o60 => .soj a e
  | 0o61 => .sojl a e
  | 0o62 => .soje a e
  | 0o63 => .sojle a e
  | 0o64 => .soja a e
  | 0o65 => .sojge a e
  | 0o66 => .sojn a e
  | 0o67 => .sojg a e
  | 0o70 => .sos a e
  | 0o71 => .sosl a e
  | 0o72 => .sose a e
  | 0o73 => .sosle a e
  | 0o74 => .sosa a e
  | 0o75 => .sosge a e
  | 0o76 => .sosn a e
  | _ => .sosg a e

/-- Opcodes 400 to 477; `n` is the low two octal digits (R121). -/
def decodeOp4 (n : Nat) (a : AcNum) (e : AddrFields) : Instr :=
  match n with
  | 0o00 => .setz a e
  | 0o01 => .setzi a e
  | 0o02 => .setzm a e
  | 0o03 => .setzb a e
  | 0o04 => .and a e
  | 0o05 => .andi a e
  | 0o06 => .andm a e
  | 0o07 => .andb a e
  | 0o10 => .andca a e
  | 0o11 => .andcai a e
  | 0o12 => .andcam a e
  | 0o13 => .andcab a e
  | 0o14 => .setm a e
  | 0o15 => .xmovei a e
  | 0o16 => .setmm a e
  | 0o17 => .setmb a e
  | 0o20 => .andcm a e
  | 0o21 => .andcmi a e
  | 0o22 => .andcmm a e
  | 0o23 => .andcmb a e
  | 0o24 => .seta a e
  | 0o25 => .setai a e
  | 0o26 => .setam a e
  | 0o27 => .setab a e
  | 0o30 => .xor a e
  | 0o31 => .xori a e
  | 0o32 => .xorm a e
  | 0o33 => .xorb a e
  | 0o34 => .ior a e
  | 0o35 => .iori a e
  | 0o36 => .iorm a e
  | 0o37 => .iorb a e
  | 0o40 => .andcb a e
  | 0o41 => .andcbi a e
  | 0o42 => .andcbm a e
  | 0o43 => .andcbb a e
  | 0o44 => .eqv a e
  | 0o45 => .eqvi a e
  | 0o46 => .eqvm a e
  | 0o47 => .eqvb a e
  | 0o50 => .setca a e
  | 0o51 => .setcai a e
  | 0o52 => .setcam a e
  | 0o53 => .setcab a e
  | 0o54 => .orca a e
  | 0o55 => .orcai a e
  | 0o56 => .orcam a e
  | 0o57 => .orcab a e
  | 0o60 => .setcm a e
  | 0o61 => .setcmi a e
  | 0o62 => .setcmm a e
  | 0o63 => .setcmb a e
  | 0o64 => .orcm a e
  | 0o65 => .orcmi a e
  | 0o66 => .orcmm a e
  | 0o67 => .orcmb a e
  | 0o70 => .orcb a e
  | 0o71 => .orcbi a e
  | 0o72 => .orcbm a e
  | 0o73 => .orcbb a e
  | 0o74 => .seto a e
  | 0o75 => .setoi a e
  | 0o76 => .setom a e
  | _ => .setob a e

/-- Opcodes 500 to 577; `n` is the low two octal digits (R121). -/
def decodeOp5 (n : Nat) (a : AcNum) (e : AddrFields) : Instr :=
  match n with
  | 0o00 => .hll a e
  | 0o01 => .xhlli a e
  | 0o02 => .hllm a e
  | 0o03 => .hlls a e
  | 0o04 => .hrl a e
  | 0o05 => .hrli a e
  | 0o06 => .hrlm a e
  | 0o07 => .hrls a e
  | 0o10 => .hllz a e
  | 0o11 => .hllzi a e
  | 0o12 => .hllzm a e
  | 0o13 => .hllzs a e
  | 0o14 => .hrlz a e
  | 0o15 => .hrlzi a e
  | 0o16 => .hrlzm a e
  | 0o17 => .hrlzs a e
  | 0o20 => .hllo a e
  | 0o21 => .hlloi a e
  | 0o22 => .hllom a e
  | 0o23 => .hllos a e
  | 0o24 => .hrlo a e
  | 0o25 => .hrloi a e
  | 0o26 => .hrlom a e
  | 0o27 => .hrlos a e
  | 0o30 => .hlle a e
  | 0o31 => .hllei a e
  | 0o32 => .hllem a e
  | 0o33 => .hlles a e
  | 0o34 => .hrle a e
  | 0o35 => .hrlei a e
  | 0o36 => .hrlem a e
  | 0o37 => .hrles a e
  | 0o40 => .hrr a e
  | 0o41 => .hrri a e
  | 0o42 => .hrrm a e
  | 0o43 => .hrrs a e
  | 0o44 => .hlr a e
  | 0o45 => .hlri a e
  | 0o46 => .hlrm a e
  | 0o47 => .hlrs a e
  | 0o50 => .hrrz a e
  | 0o51 => .hrrzi a e
  | 0o52 => .hrrzm a e
  | 0o53 => .hrrzs a e
  | 0o54 => .hlrz a e
  | 0o55 => .hlrzi a e
  | 0o56 => .hlrzm a e
  | 0o57 => .hlrzs a e
  | 0o60 => .hrro a e
  | 0o61 => .hrroi a e
  | 0o62 => .hrrom a e
  | 0o63 => .hrros a e
  | 0o64 => .hlro a e
  | 0o65 => .hlroi a e
  | 0o66 => .hlrom a e
  | 0o67 => .hlros a e
  | 0o70 => .hrre a e
  | 0o71 => .hrrei a e
  | 0o72 => .hrrem a e
  | 0o73 => .hrres a e
  | 0o74 => .hlre a e
  | 0o75 => .hlrei a e
  | 0o76 => .hlrem a e
  | _ => .hlres a e

/-- Opcodes 600 to 677; `n` is the low two octal digits (R121). -/
def decodeOp6 (n : Nat) (a : AcNum) (e : AddrFields) : Instr :=
  match n with
  | 0o00 => .trn a e
  | 0o01 => .tln a e
  | 0o02 => .trne a e
  | 0o03 => .tlne a e
  | 0o04 => .trna a e
  | 0o05 => .tlna a e
  | 0o06 => .trnn a e
  | 0o07 => .tlnn a e
  | 0o10 => .tdn a e
  | 0o11 => .tsn a e
  | 0o12 => .tdne a e
  | 0o13 => .tsne a e
  | 0o14 => .tdna a e
  | 0o15 => .tsna a e
  | 0o16 => .tdnn a e
  | 0o17 => .tsnn a e
  | 0o20 => .trz a e
  | 0o21 => .tlz a e
  | 0o22 => .trze a e
  | 0o23 => .tlze a e
  | 0o24 => .trza a e
  | 0o25 => .tlza a e
  | 0o26 => .trzn a e
  | 0o27 => .tlzn a e
  | 0o30 => .tdz a e
  | 0o31 => .tsz a e
  | 0o32 => .tdze a e
  | 0o33 => .tsze a e
  | 0o34 => .tdza a e
  | 0o35 => .tsza a e
  | 0o36 => .tdzn a e
  | 0o37 => .tszn a e
  | 0o40 => .trc a e
  | 0o41 => .tlc a e
  | 0o42 => .trce a e
  | 0o43 => .tlce a e
  | 0o44 => .trca a e
  | 0o45 => .tlca a e
  | 0o46 => .trcn a e
  | 0o47 => .tlcn a e
  | 0o50 => .tdc a e
  | 0o51 => .tsc a e
  | 0o52 => .tdce a e
  | 0o53 => .tsce a e
  | 0o54 => .tdca a e
  | 0o55 => .tsca a e
  | 0o56 => .tdcn a e
  | 0o57 => .tscn a e
  | 0o60 => .tro a e
  | 0o61 => .tlo a e
  | 0o62 => .troe a e
  | 0o63 => .tloe a e
  | 0o64 => .troa a e
  | 0o65 => .tloa a e
  | 0o66 => .tron a e
  | 0o67 => .tlon a e
  | 0o70 => .tdo a e
  | 0o71 => .tso a e
  | 0o72 => .tdoe a e
  | 0o73 => .tsoe a e
  | 0o74 => .tdoa a e
  | 0o75 => .tsoa a e
  | 0o76 => .tdon a e
  | _ => .tson a e

/-- The instruction of an opcode, an AC field, an address part and the low 33 bits of the word (which only the
input-output row needs), by the leading octal digit of the opcode (R121). -/
def decodeFields (op : BitVec 9) (a : AcNum) (e : AddrFields) (rest : BitVec 33) : Instr :=
  match op.toNat / 0o100 with
  | 0 => if op.toNat < 0o40 then decodeOp0 op.toNat a e else .muuo040 (op.setWidth 5) a e
  | 1 => decodeOp1 (op.toNat % 0o100) a e
  | 2 => decodeOp2 (op.toNat % 0o100) a e
  | 3 => decodeOp3 (op.toNat % 0o100) a e
  | 4 => decodeOp4 (op.toNat % 0o100) a e
  | 5 => decodeOp5 (op.toNat % 0o100) a e
  | 6 => decodeOp6 (op.toNat % 0o100) a e
  | _ => .io rest

/-- The instruction a word stands for, as an instruction word (R100, R121). -/
def decode (w : Word) : Instr :=
  decodeFields (opField w) (acField w) (fieldsOf w) (w.extractLsb' 0 33)

/-- The extended instruction that an EXTEND with AC field `a` and effective address `e0` selects by the word `xw` found at
`e0` (R117, R230); `none` for an extended opcode with no assigned instruction. -/
def decodeExt (a : AcNum) (e0 : EA) (xw : Word) : Option Instr :=
  let z := acField xw
  let e := fieldsOf xw
  match (opField xw).toNat with
  | 0o001 => some (.cmpsl a e0 z e)
  | 0o002 => some (.cmpse a e0 z e)
  | 0o003 => some (.cmpsle a e0 z e)
  | 0o004 => some (.edit a e0 z e)
  | 0o005 => some (.cmpsge a e0 z e)
  | 0o006 => some (.cmpsn a e0 z e)
  | 0o007 => some (.cmpsg a e0 z e)
  | 0o010 => some (.cvtdbo a e0 z e)
  | 0o011 => some (.cvtdbt a e0 z e)
  | 0o012 => some (.cvtbdo a e0 z e)
  | 0o013 => some (.cvtbdt a e0 z e)
  | 0o014 => some (.movso a e0 z e)
  | 0o015 => some (.movst a e0 z e)
  | 0o016 => some (.movslj a e0 z e)
  | 0o017 => some (.movsrj a e0 z e)
  | 0o020 => some (.xblt a e0 z e)
  | _ => none

/-- The word of an instruction (R126); for an extended instruction, the extended opcode word at E0 (R117). -/
def encode (i : Instr) : Word :=
  match i with
  | .muuo000 a e => instrWord 0o000 a e
  | .luuo01 a e => instrWord 0o001 a e
  | .luuo02 a e => instrWord 0o002 a e
  | .luuo03 a e => instrWord 0o003 a e
  | .luuo04 a e => instrWord 0o004 a e
  | .luuo05 a e => instrWord 0o005 a e
  | .luuo06 a e => instrWord 0o006 a e
  | .luuo07 a e => instrWord 0o007 a e
  | .luuo10 a e => instrWord 0o010 a e
  | .luuo11 a e => instrWord 0o011 a e
  | .luuo12 a e => instrWord 0o012 a e
  | .luuo13 a e => instrWord 0o013 a e
  | .luuo14 a e => instrWord 0o014 a e
  | .luuo15 a e => instrWord 0o015 a e
  | .luuo16 a e => instrWord 0o016 a e
  | .luuo17 a e => instrWord 0o017 a e
  | .luuo20 a e => instrWord 0o020 a e
  | .luuo21 a e => instrWord 0o021 a e
  | .luuo22 a e => instrWord 0o022 a e
  | .luuo23 a e => instrWord 0o023 a e
  | .luuo24 a e => instrWord 0o024 a e
  | .luuo25 a e => instrWord 0o025 a e
  | .luuo26 a e => instrWord 0o026 a e
  | .luuo27 a e => instrWord 0o027 a e
  | .luuo30 a e => instrWord 0o030 a e
  | .luuo31 a e => instrWord 0o031 a e
  | .luuo32 a e => instrWord 0o032 a e
  | .luuo33 a e => instrWord 0o033 a e
  | .luuo34 a e => instrWord 0o034 a e
  | .luuo35 a e => instrWord 0o035 a e
  | .luuo36 a e => instrWord 0o036 a e
  | .luuo37 a e => instrWord 0o037 a e
  | .muuo040 lo a e => instrWord ((1 : BitVec 4) ++ lo) a e
  | .muuo100 a e => instrWord 0o100 a e
  | .muuo101 a e => instrWord 0o101 a e
  | .muuo102 a e => instrWord 0o102 a e
  | .muuo103 a e => instrWord 0o103 a e
  | .muuo106 a e => instrWord 0o106 a e
  | .muuo107 a e => instrWord 0o107 a e
  | .muuo247 a e => instrWord 0o247 a e
  | .jsys a e => instrWord 0o104 a e
  | .adjsp a e => instrWord 0o105 a e
  | .dfad a e => instrWord 0o110 a e
  | .dfsb a e => instrWord 0o111 a e
  | .dfmp a e => instrWord 0o112 a e
  | .dfdv a e => instrWord 0o113 a e
  | .dadd a e => instrWord 0o114 a e
  | .dsub a e => instrWord 0o115 a e
  | .dmul a e => instrWord 0o116 a e
  | .ddiv a e => instrWord 0o117 a e
  | .dmove a e => instrWord 0o120 a e
  | .dmovn a e => instrWord 0o121 a e
  | .fix a e => instrWord 0o122 a e
  | .extend a e => instrWord 0o123 a e
  | .dmovem a e => instrWord 0o124 a e
  | .dmovnm a e => instrWord 0o125 a e
  | .fixr a e => instrWord 0o126 a e
  | .fltr a e => instrWord 0o127 a e
  | .ufa a e => instrWord 0o130 a e
  | .dfn a e => instrWord 0o131 a e
  | .fsc a e => instrWord 0o132 a e
  | .ibp a e => instrWord 0o133 a e
  | .ildb a e => instrWord 0o134 a e
  | .ldb a e => instrWord 0o135 a e
  | .idpb a e => instrWord 0o136 a e
  | .dpb a e => instrWord 0o137 a e
  | .fad a e => instrWord 0o140 a e
  | .muuo141 a e => instrWord 0o141 a e
  | .fadm a e => instrWord 0o142 a e
  | .fadb a e => instrWord 0o143 a e
  | .fadr a e => instrWord 0o144 a e
  | .fadri a e => instrWord 0o145 a e
  | .fadrm a e => instrWord 0o146 a e
  | .fadrb a e => instrWord 0o147 a e
  | .fsb a e => instrWord 0o150 a e
  | .muuo151 a e => instrWord 0o151 a e
  | .fsbm a e => instrWord 0o152 a e
  | .fsbb a e => instrWord 0o153 a e
  | .fsbr a e => instrWord 0o154 a e
  | .fsbri a e => instrWord 0o155 a e
  | .fsbrm a e => instrWord 0o156 a e
  | .fsbrb a e => instrWord 0o157 a e
  | .fmp a e => instrWord 0o160 a e
  | .muuo161 a e => instrWord 0o161 a e
  | .fmpm a e => instrWord 0o162 a e
  | .fmpb a e => instrWord 0o163 a e
  | .fmpr a e => instrWord 0o164 a e
  | .fmpri a e => instrWord 0o165 a e
  | .fmprm a e => instrWord 0o166 a e
  | .fmprb a e => instrWord 0o167 a e
  | .fdv a e => instrWord 0o170 a e
  | .muuo171 a e => instrWord 0o171 a e
  | .fdvm a e => instrWord 0o172 a e
  | .fdvb a e => instrWord 0o173 a e
  | .fdvr a e => instrWord 0o174 a e
  | .fdvri a e => instrWord 0o175 a e
  | .fdvrm a e => instrWord 0o176 a e
  | .fdvrb a e => instrWord 0o177 a e
  | .move a e => instrWord 0o200 a e
  | .movei a e => instrWord 0o201 a e
  | .movem a e => instrWord 0o202 a e
  | .moves a e => instrWord 0o203 a e
  | .movs a e => instrWord 0o204 a e
  | .movsi a e => instrWord 0o205 a e
  | .movsm a e => instrWord 0o206 a e
  | .movss a e => instrWord 0o207 a e
  | .movn a e => instrWord 0o210 a e
  | .movni a e => instrWord 0o211 a e
  | .movnm a e => instrWord 0o212 a e
  | .movns a e => instrWord 0o213 a e
  | .movm a e => instrWord 0o214 a e
  | .movmi a e => instrWord 0o215 a e
  | .movmm a e => instrWord 0o216 a e
  | .movms a e => instrWord 0o217 a e
  | .imul a e => instrWord 0o220 a e
  | .imuli a e => instrWord 0o221 a e
  | .imulm a e => instrWord 0o222 a e
  | .imulb a e => instrWord 0o223 a e
  | .mul a e => instrWord 0o224 a e
  | .muli a e => instrWord 0o225 a e
  | .mulm a e => instrWord 0o226 a e
  | .mulb a e => instrWord 0o227 a e
  | .idiv a e => instrWord 0o230 a e
  | .idivi a e => instrWord 0o231 a e
  | .idivm a e => instrWord 0o232 a e
  | .idivb a e => instrWord 0o233 a e
  | .div a e => instrWord 0o234 a e
  | .divi a e => instrWord 0o235 a e
  | .divm a e => instrWord 0o236 a e
  | .divb a e => instrWord 0o237 a e
  | .ash a e => instrWord 0o240 a e
  | .rot a e => instrWord 0o241 a e
  | .lsh a e => instrWord 0o242 a e
  | .jffo a e => instrWord 0o243 a e
  | .ashc a e => instrWord 0o244 a e
  | .rotc a e => instrWord 0o245 a e
  | .lshc a e => instrWord 0o246 a e
  | .exch a e => instrWord 0o250 a e
  | .blt a e => instrWord 0o251 a e
  | .aobjp a e => instrWord 0o252 a e
  | .aobjn a e => instrWord 0o253 a e
  | .jrst e => instrWord 0o254 0o00 e
  | .portal e => instrWord 0o254 0o01 e
  | .jrstf e => instrWord 0o254 0o02 e
  | .muuoJrst03 e => instrWord 0o254 0o03 e
  | .halt e => instrWord 0o254 0o04 e
  | .xjrstf e => instrWord 0o254 0o05 e
  | .xjen e => instrWord 0o254 0o06 e
  | .xpcw e => instrWord 0o254 0o07 e
  | .jrst10 e => instrWord 0o254 0o10 e
  | .muuoJrst11 e => instrWord 0o254 0o11 e
  | .jen e => instrWord 0o254 0o12 e
  | .muuoJrst13 e => instrWord 0o254 0o13 e
  | .sfm e => instrWord 0o254 0o14 e
  | .xjrst e => instrWord 0o254 0o15 e
  | .muuoJrst16 e => instrWord 0o254 0o16 e
  | .muuoJrst17 e => instrWord 0o254 0o17 e
  | .jfcl a e => instrWord 0o255 a e
  | .xct e => instrWord 0o256 0o00 e
  | .pxct n e => instrWord 0o256 n e
  | .map a e => instrWord 0o257 a e
  | .pushj a e => instrWord 0o260 a e
  | .push a e => instrWord 0o261 a e
  | .pop a e => instrWord 0o262 a e
  | .popj a e => instrWord 0o263 a e
  | .jsr a e => instrWord 0o264 a e
  | .jsp a e => instrWord 0o265 a e
  | .jsa a e => instrWord 0o266 a e
  | .jra a e => instrWord 0o267 a e
  | .add a e => instrWord 0o270 a e
  | .addi a e => instrWord 0o271 a e
  | .addm a e => instrWord 0o272 a e
  | .addb a e => instrWord 0o273 a e
  | .sub a e => instrWord 0o274 a e
  | .subi a e => instrWord 0o275 a e
  | .subm a e => instrWord 0o276 a e
  | .subb a e => instrWord 0o277 a e
  | .cai a e => instrWord 0o300 a e
  | .cail a e => instrWord 0o301 a e
  | .caie a e => instrWord 0o302 a e
  | .caile a e => instrWord 0o303 a e
  | .caia a e => instrWord 0o304 a e
  | .caige a e => instrWord 0o305 a e
  | .cain a e => instrWord 0o306 a e
  | .caig a e => instrWord 0o307 a e
  | .cam a e => instrWord 0o310 a e
  | .caml a e => instrWord 0o311 a e
  | .came a e => instrWord 0o312 a e
  | .camle a e => instrWord 0o313 a e
  | .cama a e => instrWord 0o314 a e
  | .camge a e => instrWord 0o315 a e
  | .camn a e => instrWord 0o316 a e
  | .camg a e => instrWord 0o317 a e
  | .jump a e => instrWord 0o320 a e
  | .jumpl a e => instrWord 0o321 a e
  | .jumpe a e => instrWord 0o322 a e
  | .jumple a e => instrWord 0o323 a e
  | .jumpa a e => instrWord 0o324 a e
  | .jumpge a e => instrWord 0o325 a e
  | .jumpn a e => instrWord 0o326 a e
  | .jumpg a e => instrWord 0o327 a e
  | .skip a e => instrWord 0o330 a e
  | .skipl a e => instrWord 0o331 a e
  | .skipe a e => instrWord 0o332 a e
  | .skiple a e => instrWord 0o333 a e
  | .skipa a e => instrWord 0o334 a e
  | .skipge a e => instrWord 0o335 a e
  | .skipn a e => instrWord 0o336 a e
  | .skipg a e => instrWord 0o337 a e
  | .aoj a e => instrWord 0o340 a e
  | .aojl a e => instrWord 0o341 a e
  | .aoje a e => instrWord 0o342 a e
  | .aojle a e => instrWord 0o343 a e
  | .aoja a e => instrWord 0o344 a e
  | .aojge a e => instrWord 0o345 a e
  | .aojn a e => instrWord 0o346 a e
  | .aojg a e => instrWord 0o347 a e
  | .aos a e => instrWord 0o350 a e
  | .aosl a e => instrWord 0o351 a e
  | .aose a e => instrWord 0o352 a e
  | .aosle a e => instrWord 0o353 a e
  | .aosa a e => instrWord 0o354 a e
  | .aosge a e => instrWord 0o355 a e
  | .aosn a e => instrWord 0o356 a e
  | .aosg a e => instrWord 0o357 a e
  | .soj a e => instrWord 0o360 a e
  | .sojl a e => instrWord 0o361 a e
  | .soje a e => instrWord 0o362 a e
  | .sojle a e => instrWord 0o363 a e
  | .soja a e => instrWord 0o364 a e
  | .sojge a e => instrWord 0o365 a e
  | .sojn a e => instrWord 0o366 a e
  | .sojg a e => instrWord 0o367 a e
  | .sos a e => instrWord 0o370 a e
  | .sosl a e => instrWord 0o371 a e
  | .sose a e => instrWord 0o372 a e
  | .sosle a e => instrWord 0o373 a e
  | .sosa a e => instrWord 0o374 a e
  | .sosge a e => instrWord 0o375 a e
  | .sosn a e => instrWord 0o376 a e
  | .sosg a e => instrWord 0o377 a e
  | .setz a e => instrWord 0o400 a e
  | .setzi a e => instrWord 0o401 a e
  | .setzm a e => instrWord 0o402 a e
  | .setzb a e => instrWord 0o403 a e
  | .and a e => instrWord 0o404 a e
  | .andi a e => instrWord 0o405 a e
  | .andm a e => instrWord 0o406 a e
  | .andb a e => instrWord 0o407 a e
  | .andca a e => instrWord 0o410 a e
  | .andcai a e => instrWord 0o411 a e
  | .andcam a e => instrWord 0o412 a e
  | .andcab a e => instrWord 0o413 a e
  | .setm a e => instrWord 0o414 a e
  | .xmovei a e => instrWord 0o415 a e
  | .setmm a e => instrWord 0o416 a e
  | .setmb a e => instrWord 0o417 a e
  | .andcm a e => instrWord 0o420 a e
  | .andcmi a e => instrWord 0o421 a e
  | .andcmm a e => instrWord 0o422 a e
  | .andcmb a e => instrWord 0o423 a e
  | .seta a e => instrWord 0o424 a e
  | .setai a e => instrWord 0o425 a e
  | .setam a e => instrWord 0o426 a e
  | .setab a e => instrWord 0o427 a e
  | .xor a e => instrWord 0o430 a e
  | .xori a e => instrWord 0o431 a e
  | .xorm a e => instrWord 0o432 a e
  | .xorb a e => instrWord 0o433 a e
  | .ior a e => instrWord 0o434 a e
  | .iori a e => instrWord 0o435 a e
  | .iorm a e => instrWord 0o436 a e
  | .iorb a e => instrWord 0o437 a e
  | .andcb a e => instrWord 0o440 a e
  | .andcbi a e => instrWord 0o441 a e
  | .andcbm a e => instrWord 0o442 a e
  | .andcbb a e => instrWord 0o443 a e
  | .eqv a e => instrWord 0o444 a e
  | .eqvi a e => instrWord 0o445 a e
  | .eqvm a e => instrWord 0o446 a e
  | .eqvb a e => instrWord 0o447 a e
  | .setca a e => instrWord 0o450 a e
  | .setcai a e => instrWord 0o451 a e
  | .setcam a e => instrWord 0o452 a e
  | .setcab a e => instrWord 0o453 a e
  | .orca a e => instrWord 0o454 a e
  | .orcai a e => instrWord 0o455 a e
  | .orcam a e => instrWord 0o456 a e
  | .orcab a e => instrWord 0o457 a e
  | .setcm a e => instrWord 0o460 a e
  | .setcmi a e => instrWord 0o461 a e
  | .setcmm a e => instrWord 0o462 a e
  | .setcmb a e => instrWord 0o463 a e
  | .orcm a e => instrWord 0o464 a e
  | .orcmi a e => instrWord 0o465 a e
  | .orcmm a e => instrWord 0o466 a e
  | .orcmb a e => instrWord 0o467 a e
  | .orcb a e => instrWord 0o470 a e
  | .orcbi a e => instrWord 0o471 a e
  | .orcbm a e => instrWord 0o472 a e
  | .orcbb a e => instrWord 0o473 a e
  | .seto a e => instrWord 0o474 a e
  | .setoi a e => instrWord 0o475 a e
  | .setom a e => instrWord 0o476 a e
  | .setob a e => instrWord 0o477 a e
  | .hll a e => instrWord 0o500 a e
  | .xhlli a e => instrWord 0o501 a e
  | .hllm a e => instrWord 0o502 a e
  | .hlls a e => instrWord 0o503 a e
  | .hrl a e => instrWord 0o504 a e
  | .hrli a e => instrWord 0o505 a e
  | .hrlm a e => instrWord 0o506 a e
  | .hrls a e => instrWord 0o507 a e
  | .hllz a e => instrWord 0o510 a e
  | .hllzi a e => instrWord 0o511 a e
  | .hllzm a e => instrWord 0o512 a e
  | .hllzs a e => instrWord 0o513 a e
  | .hrlz a e => instrWord 0o514 a e
  | .hrlzi a e => instrWord 0o515 a e
  | .hrlzm a e => instrWord 0o516 a e
  | .hrlzs a e => instrWord 0o517 a e
  | .hllo a e => instrWord 0o520 a e
  | .hlloi a e => instrWord 0o521 a e
  | .hllom a e => instrWord 0o522 a e
  | .hllos a e => instrWord 0o523 a e
  | .hrlo a e => instrWord 0o524 a e
  | .hrloi a e => instrWord 0o525 a e
  | .hrlom a e => instrWord 0o526 a e
  | .hrlos a e => instrWord 0o527 a e
  | .hlle a e => instrWord 0o530 a e
  | .hllei a e => instrWord 0o531 a e
  | .hllem a e => instrWord 0o532 a e
  | .hlles a e => instrWord 0o533 a e
  | .hrle a e => instrWord 0o534 a e
  | .hrlei a e => instrWord 0o535 a e
  | .hrlem a e => instrWord 0o536 a e
  | .hrles a e => instrWord 0o537 a e
  | .hrr a e => instrWord 0o540 a e
  | .hrri a e => instrWord 0o541 a e
  | .hrrm a e => instrWord 0o542 a e
  | .hrrs a e => instrWord 0o543 a e
  | .hlr a e => instrWord 0o544 a e
  | .hlri a e => instrWord 0o545 a e
  | .hlrm a e => instrWord 0o546 a e
  | .hlrs a e => instrWord 0o547 a e
  | .hrrz a e => instrWord 0o550 a e
  | .hrrzi a e => instrWord 0o551 a e
  | .hrrzm a e => instrWord 0o552 a e
  | .hrrzs a e => instrWord 0o553 a e
  | .hlrz a e => instrWord 0o554 a e
  | .hlrzi a e => instrWord 0o555 a e
  | .hlrzm a e => instrWord 0o556 a e
  | .hlrzs a e => instrWord 0o557 a e
  | .hrro a e => instrWord 0o560 a e
  | .hrroi a e => instrWord 0o561 a e
  | .hrrom a e => instrWord 0o562 a e
  | .hrros a e => instrWord 0o563 a e
  | .hlro a e => instrWord 0o564 a e
  | .hlroi a e => instrWord 0o565 a e
  | .hlrom a e => instrWord 0o566 a e
  | .hlros a e => instrWord 0o567 a e
  | .hrre a e => instrWord 0o570 a e
  | .hrrei a e => instrWord 0o571 a e
  | .hrrem a e => instrWord 0o572 a e
  | .hrres a e => instrWord 0o573 a e
  | .hlre a e => instrWord 0o574 a e
  | .hlrei a e => instrWord 0o575 a e
  | .hlrem a e => instrWord 0o576 a e
  | .hlres a e => instrWord 0o577 a e
  | .trn a e => instrWord 0o600 a e
  | .tln a e => instrWord 0o601 a e
  | .trne a e => instrWord 0o602 a e
  | .tlne a e => instrWord 0o603 a e
  | .trna a e => instrWord 0o604 a e
  | .tlna a e => instrWord 0o605 a e
  | .trnn a e => instrWord 0o606 a e
  | .tlnn a e => instrWord 0o607 a e
  | .tdn a e => instrWord 0o610 a e
  | .tsn a e => instrWord 0o611 a e
  | .tdne a e => instrWord 0o612 a e
  | .tsne a e => instrWord 0o613 a e
  | .tdna a e => instrWord 0o614 a e
  | .tsna a e => instrWord 0o615 a e
  | .tdnn a e => instrWord 0o616 a e
  | .tsnn a e => instrWord 0o617 a e
  | .trz a e => instrWord 0o620 a e
  | .tlz a e => instrWord 0o621 a e
  | .trze a e => instrWord 0o622 a e
  | .tlze a e => instrWord 0o623 a e
  | .trza a e => instrWord 0o624 a e
  | .tlza a e => instrWord 0o625 a e
  | .trzn a e => instrWord 0o626 a e
  | .tlzn a e => instrWord 0o627 a e
  | .tdz a e => instrWord 0o630 a e
  | .tsz a e => instrWord 0o631 a e
  | .tdze a e => instrWord 0o632 a e
  | .tsze a e => instrWord 0o633 a e
  | .tdza a e => instrWord 0o634 a e
  | .tsza a e => instrWord 0o635 a e
  | .tdzn a e => instrWord 0o636 a e
  | .tszn a e => instrWord 0o637 a e
  | .trc a e => instrWord 0o640 a e
  | .tlc a e => instrWord 0o641 a e
  | .trce a e => instrWord 0o642 a e
  | .tlce a e => instrWord 0o643 a e
  | .trca a e => instrWord 0o644 a e
  | .tlca a e => instrWord 0o645 a e
  | .trcn a e => instrWord 0o646 a e
  | .tlcn a e => instrWord 0o647 a e
  | .tdc a e => instrWord 0o650 a e
  | .tsc a e => instrWord 0o651 a e
  | .tdce a e => instrWord 0o652 a e
  | .tsce a e => instrWord 0o653 a e
  | .tdca a e => instrWord 0o654 a e
  | .tsca a e => instrWord 0o655 a e
  | .tdcn a e => instrWord 0o656 a e
  | .tscn a e => instrWord 0o657 a e
  | .tro a e => instrWord 0o660 a e
  | .tlo a e => instrWord 0o661 a e
  | .troe a e => instrWord 0o662 a e
  | .tloe a e => instrWord 0o663 a e
  | .troa a e => instrWord 0o664 a e
  | .tloa a e => instrWord 0o665 a e
  | .tron a e => instrWord 0o666 a e
  | .tlon a e => instrWord 0o667 a e
  | .tdo a e => instrWord 0o670 a e
  | .tso a e => instrWord 0o671 a e
  | .tdoe a e => instrWord 0o672 a e
  | .tsoe a e => instrWord 0o673 a e
  | .tdoa a e => instrWord 0o674 a e
  | .tsoa a e => instrWord 0o675 a e
  | .tdon a e => instrWord 0o676 a e
  | .tson a e => instrWord 0o677 a e
  | .io r => (7 : BitVec 3) ++ r
  | .cmpsl _ _ z e => instrWord 0o001 z e
  | .cmpse _ _ z e => instrWord 0o002 z e
  | .cmpsle _ _ z e => instrWord 0o003 z e
  | .edit _ _ z e => instrWord 0o004 z e
  | .cmpsge _ _ z e => instrWord 0o005 z e
  | .cmpsn _ _ z e => instrWord 0o006 z e
  | .cmpsg _ _ z e => instrWord 0o007 z e
  | .cvtdbo _ _ z e => instrWord 0o010 z e
  | .cvtdbt _ _ z e => instrWord 0o011 z e
  | .cvtbdo _ _ z e => instrWord 0o012 z e
  | .cvtbdt _ _ z e => instrWord 0o013 z e
  | .movso _ _ z e => instrWord 0o014 z e
  | .movst _ _ z e => instrWord 0o015 z e
  | .movslj _ _ z e => instrWord 0o016 z e
  | .movsrj _ _ z e => instrWord 0o017 z e
  | .xblt _ _ z e => instrWord 0o020 z e

/-- The word that is executed and that a trap reports (60_exceptions.md R480): the encoding, but for an extended
instruction the EXTEND that reached it, of which only opcode and AC field are reported. -/
def trapWord (i : Instr) : Word :=
  match i.extendAc with
  | some a => instrWord 0o123 a ⟨false, 0, 0⟩
  | none => encode i

/-- The decoder on a 36-bit word stored as bytes, least significant first (the numbering of
spec/opcode_table.json): five bytes, of which the last holds four bits. -/
def decodeBytes (bs : List (BitVec 8)) : Except DecodeError Instr :=
  let n := bs.foldr (fun b acc => b.toNat + 256 * acc) 0
  if bs.length < 5 then .error .shorterThanAWord
  else if n < 2 ^ 36 then .ok (decode (BitVec.ofNat 36 n))
  else .error .widerThanAWord

/-- `k` bytes of a number, least significant first. -/
def bytesOf : Nat → Nat → List (BitVec 8)
  | 0, _ => []
  | k + 1, n => BitVec.ofNat 8 n :: bytesOf k (n / 256)

/-- The instruction the decoder reads from the bits `w` of a table row of `nbits` bits; the bits above `nbits` are 0. -/
def decodeTableWord (nbits w : Nat) : Option Instr :=
  match decodeBytes (bytesOf (max 5 ((nbits + 7) / 8)) (w % 2 ^ nbits)) with
  | .ok i => some i
  | .error _ => none

end

end Sys2Proof
end

