-- ==== Sys2Proof/Config.lean ====
section
/-! DEFINITION. What an implementation fixes (the parameters of spec/00_scope.md R5 to R8, a record that `State` carries) and
the free values: constants without a body for every value the memo leaves open, about which nothing can be proved. -/

namespace Sys2Proof

/-- The two virtual address spaces (20_memory.md R63). -/
inductive Space where
  /-- the exec space, "as mapped through the EPT" -/
  | exec
  /-- the user space, "as mapped through the UPT" -/
  | user
deriving DecidableEq, Repr

/-- The three kinds of access `Map` tells apart (20_memory.md R84). -/
inductive Access where
  /-- a data read, an indirect word, an executed word (R159, R431) -/
  | read
  /-- a data write -/
  | write
  /-- an instruction fetch (R72); log 5 -/
  | fetch
deriving DecidableEq, Repr

/-- One region of the parameter `Map`: for each kind of access, the physical words the `count` addresses of `space` from `first`
on stand for; an access with none is not admitted (20_memory.md R84; DESIGN CHOICE, log 4). -/
structure MapEntry where
  /-- the space -/
  space : Space
  /-- first address -/
  first : Nat
  /-- number of addresses -/
  count : Nat
  /-- first physical word of reads; none: no read is admitted -/
  r : Option Nat
  /-- first physical word of writes; none: no write is admitted -/
  w : Option Nat
  /-- first physical word of fetches; none: no fetch is admitted -/
  x : Option Nat
deriving DecidableEq, Repr

/-- The first physical word of a region for an access. -/
def MapEntry.cell (r : MapEntry) : Access → Option Nat
  | .read => r.r
  | .write => r.w
  | .fetch => r.x

/-- The process tables (60_exceptions.md R480). -/
inductive Table where
  /-- user process table -/
  | upt
  /-- exec process table -/
  | ept
deriving DecidableEq, Repr

/-- A value that a trap may store, with its width (60_exceptions.md R484, R486, R488, 45_uuo.md R342, R343). -/
inductive TrapValue where
  /-- the flags, as the left half of a flags-and-PC word holds them: 18 bits -/
  | flags
  /-- the opcode: 9 bits -/
  | opcode
  /-- the AC field: 4 bits -/
  | acField
  /-- the PC of the instruction: 30 bits -/
  | pc
  /-- PC+1: 30 bits -/
  | pcNext
  /-- `ConvE` of the effective or reference address: 30 bits -/
  | address
  /-- the in-section part of that address: 18 bits -/
  | offset
  /-- the process-context word: 36 bits -/
  | processContext
  /-- the previous CAB: 3 bits -/
  | cab
  /-- the previous PAB: 3 bits -/
  | pab
  /-- the previous PCS: 12 bits -/
  | pcs
  /-- the failure code of a page fail: 5 bits -/
  | code
  /-- whether the address is one of the user space: 1 bit -/
  | user
deriving DecidableEq, Repr

/-- A value in a word of a trap block, by the number of the bit its last bit stands in. -/
structure TrapField where
  /-- the value -/
  value : TrapValue
  /-- the bit of the word, 0 to 35 -/
  last : Nat
deriving DecidableEq, Repr

/-- A word that a trap stores: its place counted from the base of its block, and what stands in it; the other bits are zero. -/
structure TrapWord where
  /-- the number of the word -/
  number : Nat
  /-- the values in it -/
  fields : List TrapField
deriving DecidableEq, Repr

/-- "a block addressed by a word fetched from the UPT or EPT" (60_exceptions.md R487). -/
structure BlockPointer where
  /-- the table; `none`: the table of the event (R480, R481) -/
  table : Option Table
  /-- the number of the address word in it -/
  word : Nat
  /-- the space the address word is a GLOBAL address of; `none`: it is the number of a physical word -/
  space : Option Space
deriving DecidableEq, Repr

/-- What the numbers of a trap's words count from (R487, R493). -/
inductive TrapBase where
  /-- a process table; `none`: the table of the event -/
  | table (t : Option Table)
  /-- a block that a word of a process table addresses -/
  | block (b : BlockPointer)
deriving DecidableEq, Repr

/-- The word that bits 6-35 of the new PC come from: its number by the old mode and the old public flag (R488, R493). -/
structure NewPcWord where
  /-- what the numbers count from -/
  base : TrapBase
  /-- from exec mode, the public flag clear -/
  exec : Nat
  /-- from exec mode, the public flag set -/
  execPublic : Nat
  /-- from user mode, the public flag clear -/
  user : Nat
  /-- from user mode, the public flag set -/
  userPublic : Nat
deriving DecidableEq, Repr

/-- How an MUUO or a page fail is entered (60_exceptions.md R485): where and in what layout its values are stored, in order, and
where control goes. -/
structure TrapEntry where
  /-- what the numbers of the words count from -/
  base : TrapBase
  /-- the words stored -/
  words : List TrapWord
  /-- the new PC -/
  newPc : NewPcWord
deriving DecidableEq, Repr

/-- The sketch of R488: UPT 424 flags, opcode and AC field; 425 PC+1; 426 E; 427 the process-context word; the new PC in one of UPT
430 to 437 (PRESUMED, log 17). -/
def TrapEntry.muuoSketch : TrapEntry :=
  { base := .table (some .upt)
    words :=
      [⟨0o424, [⟨.flags, 17⟩, ⟨.opcode, 26⟩, ⟨.acField, 30⟩]⟩, ⟨0o425, [⟨.pcNext, 35⟩]⟩, ⟨0o426, [⟨.address, 35⟩]⟩,
        ⟨0o427, [⟨.processContext, 35⟩]⟩]
    newPc := { base := .table (some .upt), exec := 0o430, execPublic := 0o432, user := 0o434, userPublic := 0o436 } }

/-- The sketch of R486: UPT 500 the user bit, the code and the address; 501 the flags; 502 the old PC; the new PC in 503 (PRESUMED,
log 17). -/
def TrapEntry.pageFailSketch : TrapEntry :=
  { base := .table (some .upt)
    words := [⟨0o500, [⟨.user, 0⟩, ⟨.code, 5⟩, ⟨.address, 35⟩]⟩, ⟨0o501, [⟨.flags, 17⟩]⟩, ⟨0o502, [⟨.pc, 35⟩]⟩]
    newPc := { base := .table (some .upt), exec := 0o503, execPublic := 0o503, user := 0o503, userPublic := 0o503 } }

/-- How the address word of the LUUO block is used (60_exceptions.md R487: not in the source; log 20). -/
inductive BlockAddressing where
  /-- bits 6-35 are a GLOBAL address in the current context, whose references may page fail -/
  | current
  /-- as a `BlockPointer` says: a GLOBAL address of a space, or (none) the number of a physical word -/
  | placed (sp : Option Space)
deriving DecidableEq, Repr

/-- The block of an LUUO with PC section non-zero (45_uuo.md R343): the word of the UPT (user LUUO) or EPT (exec LUUO) that addresses
it, the words stored in it, and the word of it that holds the new PC. -/
structure LuuoLayout where
  /-- the number of the address word -/
  pointer : Nat
  /-- how the address word is used -/
  addressing : BlockAddressing
  /-- the words stored -/
  words : List TrapWord
  /-- the number of the word that holds the new PC -/
  newPc : Nat
deriving DecidableEq, Repr

/-- The sketch of R343: address word 420; flags, opcode and AC field; PC+1; E; the new PC (PRESUMED, log 17). -/
def LuuoLayout.sketch (b : BlockAddressing) : LuuoLayout :=
  { pointer := 0o420, addressing := b
    words := [⟨0, [⟨.flags, 17⟩, ⟨.opcode, 26⟩, ⟨.acField, 30⟩]⟩, ⟨1, [⟨.pcNext, 35⟩]⟩, ⟨2, [⟨.address, 35⟩]⟩], newPc := 3 }

/-- The sketch of R342: what the word at 0,,40 receives, the opcode, the AC field and off(E). -/
def luuo40Sketch : List TrapField := [⟨.opcode, 8⟩, ⟨.acField, 12⟩, ⟨.offset, 35⟩]

/-- The parameter `TRAP_LAYOUT` (60_exceptions.md R485, 10_state.md R31): which of its four parts is supplied, and how; a part not
supplied makes its event terminal (R480). -/
structure TrapLayout where
  /-- LUUO with PC section zero: what the word at 0,,40 receives (45_uuo.md R342) -/
  luuo40 : Option (List TrapField)
  /-- LUUO with PC section non-zero (45_uuo.md R343) -/
  luuoBlock : Option LuuoLayout
  /-- the entry of an MUUO (R487, R488) -/
  muuo : Option TrapEntry
  /-- the entry of a page fail (R486, R487) -/
  pageFail : Option TrapEntry
  /-- the AC block a context change selects; `none`: CAB stays (R490, log 18) -/
  newCab : Option BlockNum
deriving DecidableEq, Repr

/-- The parameter `STACK_OVERFLOW` (44_stack.md R318). -/
inductive StackOverflow where
  /-- the instruction is refused -/
  | refuse
  /-- the step stands and the instruction goes on -/
  | continue
deriving DecidableEq, Repr

/-- What the machine does in a case for which a rule states effects, or leaves one value open, and for which the spec's own choice is
"refuse" (92_eei_decisions.md D13, D15, D24, D32, D33, XJEN in 43_jumps.md R286; log 47). -/
inductive Rulings where
  /-- the spec's choice: the instruction is refused -/
  | refuse
  /-- the instruction runs, what the source does not give being a free value -/
  | run
deriving DecidableEq, Repr

/-- The three byte pointer formats (30_encoding.md R108 to R110). -/
inductive BpKind where
  /-- one-word local -/
  | oneLocal
  /-- one-word global -/
  | oneGlobal
  /-- two-word global -/
  | twoGlobal
deriving DecidableEq, Repr

/-- The parameter `BYTE_INCREMENT` (41_byte.md R211). -/
inductive ByteIncrement where
  /-- the default of R211 -/
  | standard
  /-- another rule: the constant `Config.byteStep` with this number -/
  | other (n : Nat)
deriving DecidableEq, Repr

/-- The parameter `OPCODES` (00_scope.md R8, 30_encoding.md R121): each list pairs a code of the implementation with the code
spec/opcode_table.json gives the same instruction; a code not listed is the table's own (log 45). -/
structure Opcodes where
  /-- opcodes, bits 0-8 of an instruction word -/
  ops : List (BitVec 9 × BitVec 9)
  /-- functions of JRST, its AC field -/
  jrst : List (AcNum × AcNum)
  /-- extended opcodes, bits 0-8 of an extended opcode word -/
  extended : List (BitVec 9 × BitVec 9)
deriving DecidableEq, Repr

/-- The parameter `FLAGS_LAYOUT` (10_state.md R28), with `XJRSTF_BLOCK` (43_jumps.md R273). -/
structure FlagsLayout where
  /-- the bit, 0 to 17, of a flags-and-PC word that holds each of the thirteen flags, in the order of R28 -/
  bits : List Nat
  /-- XJRSTF_BLOCK: the PC is the first of the two words, the flags the second -/
  pcFirst : Bool
deriving DecidableEq, Repr

/-- The default of R28 and R273: the flags in bits 0 to 12 in order, and first in the block. -/
def FlagsLayout.standard : FlagsLayout := { bits := [0, 1, 2, 3, 4, 5, 6, 7, 8, 9, 10, 11, 12], pcFirst := false }

/-- OWGBP_TABLE at its default, codes 45 to 76 octal in order: (P, S) (30_encoding.md R109; log 10). -/
def owgbpStandard : List (Nat × Nat) :=
  [(36, 6), (30, 6), (24, 6), (18, 6), (12, 6), (6, 6), (0, 6),
   (36, 8), (28, 8), (20, 8), (12, 8), (4, 8),
   (36, 7), (29, 7), (22, 7), (15, 7), (8, 7), (1, 7),
   (36, 9), (27, 9), (18, 9), (9, 9), (0, 9),
   (36, 18), (18, 18), (0, 18)]

/-- The parameters of one implementation (00_scope.md R5, R6, R8; log 1). -/
structure Config where
  /-- `NSECT`, the number of implemented sections (R5) -/
  nsect : Nat
  /-- `PCS_BITS`, the width of PCS (R6) -/
  pcsBits : Nat
  /-- `OPCODES` -/
  opcodes : Opcodes
  /-- `OWGBP_TABLE`: the (P, S) of the codes 45, 46, ... octal (30_encoding.md R109) -/
  owgbp : List (Nat × Nat)
  /-- `FLAGS_LAYOUT` (10_state.md R28) -/
  flagsLayout : FlagsLayout
  /-- `BYTE_INCREMENT` (41_byte.md R211) -/
  byteIncrement : ByteIncrement
  /-- `Map`: the first region that holds an address decides; an address in none is mapped with no failure (log 4) -/
  map : List MapEntry
  /-- `TRAP_LAYOUT` (60_exceptions.md R485) -/
  traps : TrapLayout
  /-- `STACK_OVERFLOW` (44_stack.md R318) -/
  stackOverflow : StackOverflow
  /-- whether the cases of log 47 are refused -/
  rulings : Rulings
  /-- whether XJEN in exec mode is (43_jumps.md R286; log 47) -/
  xjen : Rulings
deriving DecidableEq, Repr

/-- The KC10 with the sketched trap layout: 4096 sections, a 12-bit PCS, every other parameter at the spec's default (R5, R6, R8;
log 1, log 17, log 33, log 47). -/
def Config.kc10 : Config :=
  { nsect := 4096, pcsBits := 12, opcodes := { ops := [], jrst := [], extended := [] }, owgbp := owgbpStandard
    flagsLayout := .standard, byteIncrement := .standard, map := []
    traps :=
      { luuo40 := some luuo40Sketch, luuoBlock := some (.sketch .current), muuo := some .muuoSketch
        pageFail := some .pageFailSketch, newCab := none }
    stackOverflow := .refuse, rulings := .refuse, xjen := .refuse }

/-- The same with the KL10's 32 sections and 5-bit PCS (R5, R6). -/
def Config.kl10 : Config := { Config.kc10 with nsect := 32, pcsBits := 5 }

/-! Free values. Each stands for a value no rule of the spec states. -/

/-- A word drawn once: the argument is the state's counter of drawn values (log 22). -/
opaque Config.freeWord : Nat → Word

/-- The result word `k` of the data step `f` of opcode `op` on its operands (47_general.md R400; log 6). -/
opaque Config.dataResult (op k : Nat) (operands : List Word) : Word

/-- Whether the data step of opcode `op` skips, or jumps, on its operands (43_jumps.md R282, R283; log 42). -/
opaque Config.dataCond (op : Nat) (operands : List Word) : Bool

/-- The flags the data step of opcode `op` would set (47_general.md R400; log 8). -/
opaque Config.dataFlags (op : Nat) (operands : List Word) : Flags

/-- What follows 7777,,777777 GLOBAL (20_memory.md R70; log 13). -/
opaque Config.incTop : Addr

/-- The byte of a word at position `p` and size `s` when `p + s > 36` (30_encoding.md R112; log 12). -/
opaque Config.oddByte (p s : Nat) (w : Word) : Word

/-- The word after a deposit of `b` at position `p` and size `s` when `p + s > 36` (30_encoding.md R112; log 12). -/
opaque Config.oddDeposit (p s : Nat) (w b : Word) : Word

/-- The position an increment gives a pointer whose size is above 36 (41_byte.md R211; log 12). -/
opaque Config.oddPosition (p s : Nat) : BitVec 6

/-- The two words of a stepped pointer under a BYTE_INCREMENT other than the default, `n` its number (41_byte.md R211; log 11). -/
opaque Config.byteStep (n : Nat) (k : BpKind) (w1 w2 : Word) : Word × Word

/-- How the first string of a CMPSxx compares with the second: of the two lengths and the two fill words, the bytes fetched from
the first and those from the second (42_extend.md R242; log 27). -/
opaque Config.stringOrder (fixed first second : List Word) : Ordering

/-- The index MOVST, the T conversions and EDIT form from a byte (42_extend.md R240); the spec does not say how wide it can be, and here
it has at most 18 bits and counts upwards, which is a limit where the table is addressed globally (DESIGN CHOICE, log 27). -/
opaque Config.tableIndex (op : Nat) (b : Word) : Half

/-- What MAP leaves in its AC: the word drawn at a count of free values for an address of a space and the physical words that Map gives
its reads, writes and fetches, none for an access that is not admitted (47_general.md R399; log 36). -/
opaque Config.mapWord (count : Nat) (sp : Space) (a : Addr) (r w x : Option Nat) : Word

/-- The five code bits of a page-fail word (60_exceptions.md R484, R486; log 19). -/
opaque Config.pageFailCode : Nat → BitVec 5

/-- The opcode and AC field that a page fail of an instruction fetch reports, where no instruction has been read (60_exceptions.md R481;
log 19). -/
opaque Config.unreadOpcode : Nat → BitVec 9 × AcNum

/-- The process-context word of the MUUO block, from CAB, PAB and PCS (60_exceptions.md R488; log 19). -/
opaque Config.processContextWord (cab pab : BlockNum) (pcs : Sec) : Word

end Sys2Proof
end

