-- ==== Sys2Proof/Machine/State.lean ====
section
/-! DEFINITION. The state of the machine, the reasons it stops, and the state after reset (spec/10_state.md R20 to R36,
60_exceptions.md R480). -/

namespace Sys2Proof.Machine

/-- The two modes (10_state.md R30). -/
inductive Mode where
  /-- exec mode -/
  | exec
  /-- user mode -/
  | user
deriving DecidableEq, Repr

/-- The context of a reference (20_memory.md R75). -/
inductive Ctx where
  /-- current context -/
  | cur
  /-- previous context -/
  | prev
deriving DecidableEq, Repr

/-- The events of 60_exceptions.md R480. -/
inductive TrapKind where
  /-- PAGE_FAIL, R481 -/
  | pageFail
  /-- MUUO, R482 -/
  | muuo
  /-- LUUO with PC section non-zero, R343 -/
  | luuo
  /-- LUUO with PC section zero, R342 -/
  | luuo0
deriving DecidableEq, Repr

/-- An event with every value the memo says is stored (60_exceptions.md R480, R484). -/
structure TrapEvent where
  /-- kind of event -/
  kind : TrapKind
  /-- process table; none for LUUO0, which goes through locations 40 and 41 and no table (45_uuo.md R342; log 17) -/
  table : Option Table
  /-- opcode and AC field of the instruction; none where the fetch itself failed -/
  op : Option (BitVec 9 × AcNum)
  /-- the stored PC; none for a page fail, whose stored PC is not in the source (R484) -/
  pcStored : Option Addr
  /-- the stored address, after ConvE (R344) -/
  eStored : Addr
  /-- FLAGS -/
  flags : Flags
deriving DecidableEq, Repr

/-- Why the machine stops. -/
inductive Fault where
  /-- raised by a page fail, an MUUO or an LUUO whose part of TRAP_LAYOUT the configuration does not supply: the event
  is terminal (60_exceptions.md R480); and by an MUUO or a page fail whose block, reached through a process-table word, cannot
  itself be referenced: "not in the source" (R494). Safe: nothing is claimed of what follows. -/
  | terminalTrap (ev : TrapEvent)
  /-- raised by an indirect chain, an XCT chain or a string move that does not end: the instruction has no result
  (40_ea_calc.md R168, 48_xct_pxct.md R432, log 37). Safe. -/
  | stuck
deriving DecidableEq, Repr

/-- Why an instruction has no meaning here. -/
inductive Refusal where
  /-- raised by an arm of exec that has no meaning yet. Safe. -/
  | notModelled (mnemonic : String)
  /-- raised by an instruction outside the list of 48_xct_pxct.md R445 when a PXCT executes it: "undefined". Safe. -/
  | pxctInapplicable
  /-- raised by a PXCT whose control bits are not in the table of 48_xct_pxct.md R444 for the executed instruction.
  Safe. -/
  | pxctIllegalBits
  /-- raised by JSA whose E or E+1 is outside PC section: "undefined" (43_jumps.md R280). Safe. -/
  | jsaInterSection
  /-- raised by a byte instruction or string instruction whose one-word global pointer has the reserved code 77, or whose
  stepped position and size OWGBP_TABLE gives no code (30_encoding.md R109; log 10). Safe. -/
  | owgbpReserved
  /-- raised by EDIT in section zero when the pattern or mark address has bits 6-17 set: "undefined"
  (42_extend.md R245). Safe. -/
  | editAddressUndefined
  /-- raised by a stack instruction whose local count half overflows when the parameter STACK_OVERFLOW is `refuse`
  (44_stack.md R318). Safe. -/
  | stackOverflow
  /-- raised by XBLT with bit 0 of the count set: a backward transfer, not in the source (46_blt_xblt.md R370). Safe. -/
  | xbltNegativeCount
  /-- raised by an XCT with a non-zero AC field in user mode (48_xct_pxct.md R440, D13), where the parameter `rulings` is `refuse`;
  so are the next four (log 47). Safe. -/
  | pxctInUserMode
  /-- raised by an instruction that has to step a GLOBAL address past 7777,,777777: the word at Inc(E) (20_memory.md R70, D15), a stack
  pointer (44_stack.md R313), an XBLT (46_blt_xblt.md R370). Safe. -/
  | addressTop
  /-- raised by BLT with the right half of AC A above off(E) (46_blt_xblt.md R366, D32). Safe. -/
  | bltAboveE
  /-- raised by BLT when AC A was the last word written (46_blt_xblt.md R367, D24). Safe. -/
  | bltOwnAc
  /-- raised by XBLT when it would write one of ACs A to A+2 (46_blt_xblt.md R370, D33). Safe. -/
  | xbltOwnAcs
  /-- raised by a JRST function the memo does not describe (43_jumps.md R286). Safe. -/
  | jrstFunctionNotDescribed
  /-- raised by an input-output instruction in exec mode: devices and their effects are not in the source
  (47_general.md R409). Safe. -/
  | ioNotDescribed
deriving DecidableEq, Repr

/-- The state (10_state.md section 1). The parameters of 00_scope.md R8 stand in `cfg`; `freeCtr` is the model's own. -/
structure State where
  /-- AC[b][n] at index 16 b + n (R20, R22) -/
  acs : Vector Word 128
  /-- CAB, current AC block (R23) -/
  cab : BlockNum
  /-- PAB, previous AC block (R24) -/
  pab : BlockNum
  /-- PCS, previous context section (R25); only `cfg.pcsBits` of it are used -/
  pcs : Sec
  /-- PCU, previous context user (R29) -/
  pcu : Bool
  /-- PC (R26) -/
  pc : Addr
  /-- FLAGS, bits 0-12 of a flags-and-PC word (R28) -/
  flags : Flags
  /-- MODE (R30) -/
  mode : Mode
  /-- UPT: the physical word number of the user process table (R31, log 17) -/
  upt : Word
  /-- EPT: the physical word number of the exec process table (R31, log 17) -/
  ept : Word
  /-- Mem: physical words, numbers strictly rising, no zero word listed; an unlisted word reads 0 (R32, log 3) -/
  mem : List (Nat × Word)
  /-- the parameters (R35, log 1) -/
  cfg : Config
  /-- the model's own: how many free values have been drawn (log 22) -/
  freeCtr : Nat
deriving DecidableEq, Repr

/-- The state after reset: no value is in the source (R36, 70_reset_and_hazards.md R530); each is a DESIGN CHOICE of log 2.
The parameters are the KC10's, with STACK_OVERFLOW = continue (log 33) and `rulings` = `run` (log 47); XJEN in exec mode is refused. -/
def State.reset : State :=
  { acs := Vector.replicate 128 0, cab := 0, pab := 0, pcs := 0, pcu := false, pc := 0, flags := 0, mode := .exec
    upt := 0, ept := 0, mem := [], cfg := { Config.kc10 with stackOverflow := .continue, rulings := .run }, freeCtr := 0 }

end Sys2Proof.Machine
end

