-- ==== Sys2Proof/Machine/Codes.lean ====
section
/-! DEFINITION. The parameter OPCODES (spec/00_scope.md R8, 30_encoding.md R121 to R123; log 45): a word as the implementation
numbers its codes, put into the numbers of spec/opcode_table.json where it is decoded, and back where a code is stored. -/

namespace Sys2Proof.Machine

/-- The code the table gives what the implementation calls `c`. -/
def standardCode {n : Nat} (t : List (BitVec n × BitVec n)) (c : BitVec n) : BitVec n :=
  match t with
  | [] => c
  | q :: t => if q.1 = c then q.2 else standardCode t c

/-- The code the implementation gives what the table calls `c`. -/
def implementedCode {n : Nat} (t : List (BitVec n × BitVec n)) (c : BitVec n) : BitVec n :=
  match t with
  | [] => c
  | q :: t => if q.2 = c then q.1 else implementedCode t c

/-- An instruction word in the table's numbers: its opcode, and under opcode 254 its AC field. -/
def standardWord (o : Opcodes) (w : Word) : Word :=
  let op := standardCode o.ops (opField w)
  op ++ (if op = 0o254 then standardCode o.jrst (acField w) else acField w) ++ w.extractLsb' 0 23

/-- An extended opcode word in the table's numbers. -/
def standardExtended (o : Opcodes) (w : Word) : Word := standardCode o.extended (opField w) ++ w.extractLsb' 0 27

/-- The implementation's opcode and AC field of the instruction the table calls `op`, `a`. -/
def implemented (o : Opcodes) (op : BitVec 9) (a : AcNum) : BitVec 9 × AcNum :=
  (implementedCode o.ops op, if op = 0o254 then implementedCode o.jrst a else a)

end Sys2Proof.Machine
end

