-- ==== Sys2Proof/Machine/Flags.lean ====
section
/-! DEFINITION. The flags, in the order of spec/10_state.md R28 (log 14), the flags-and-PC word that FLAGS_LAYOUT lays out
(30_encoding.md R115), what a data step may change of them, and what a jump may restore. -/

namespace Sys2Proof.Machine

/-- Flag `i` in the order of R28. -/
def flagAt (f : Flags) (i : Nat) : Bool := f.getMsbD i

/-- `f` with flag `i` set to `b`. -/
def withFlag (f : Flags) (i : Nat) (b : Bool) : Flags :=
  let m : Flags := (1 : Flags) <<< (12 - i)
  if b then f ||| m else f &&& ~~~m

/-- Flag 5, user (R28). -/
def userFlag (f : Flags) : Bool := flagAt f 5

/-- Flag 6: user in-out or, in exec mode, previous context user (R28); kept apart from the register PCU (log 46). -/
def userIoFlag (f : Flags) : Bool := flagAt f 6

/-- Flag 7, public (R28). -/
def publicFlag (f : Flags) : Bool := flagAt f 7

/-- The mode that goes with the flags: USER where bit 5 is set (R28, R30; PRESUMED, log 14). -/
def modeOf (f : Flags) : Mode := if userFlag f then .user else .exec

/-- The flags, from flag `i` on, placed in a left half, each in the bit listed for it; the other bits zero. -/
def placeFlags (f : Flags) : Nat → List Nat → Half
  | _, [] => 0
  | i, b :: t => (BitVec.ofBool (flagAt f i)).setWidth 18 <<< (17 - b) ||| placeFlags f (i + 1) t

/-- The flags, from flag `i` on, found in a left half, each in the bit listed for it. -/
def gatherFlags (h : Half) : Nat → List Nat → Flags
  | _, [] => 0
  | i, b :: t => (BitVec.ofBool (h.getMsbD b)).setWidth 13 <<< (12 - i) ||| gatherFlags h (i + 1) t

/-- `FlagsPC(FLAGS, n)`: the flags in the left half as FLAGS_LAYOUT places them, an 18-bit PC (30_encoding.md R115). -/
def flagsPC (l : FlagsLayout) (f : Flags) (n : Half) : Word := placeFlags f 0 l.bits ++ n

/-- The flags of a flags-and-PC word (R28, R115). -/
def flagsField (l : FlagsLayout) (w : Word) : Flags := gatherFlags (lh w) 0 l.bits

/-- The flags a data step may change: overflow, carry 0, carry 1, floating overflow, trap 2, trap 1, floating underflow, no
divide; bits 0-3 and 9-12 of R28 (47_general.md R400, R403; log 8). -/
def arithmeticMask : Flags := 0b1111000001111

/-- FLAGS after a data step that would set `new`: only the arithmetic flags change (log 8). -/
def mergeFlags (old new : Flags) : Flags := (old &&& ~~~arithmeticMask) ||| (new &&& arithmeticMask)

/-- FLAGS after a jump restores `new` (43_jumps.md R272, R273): all of `new` in exec mode; in user mode USER stays set and bit 6
is not newly set (PRESUMED, log 15). -/
def restoredFlags (old new : Flags) : Flags :=
  if userFlag old then withFlag (withFlag new 5 true) 6 (userIoFlag new && userIoFlag old) else new

/-- FLAGS after an MUUO or a page fail: an unstated value `free`, but USER cleared and bit 6 the old user flag
(60_exceptions.md R488; log 19). -/
def trapFlags (old free : Flags) : Flags := withFlag (withFlag free 5 false) 6 (userFlag old)

end Sys2Proof.Machine
end

