-- ==== Sys2Proof/Machine/Ops.lean ====
section
/-! DEFINITION. The named operations over memory, the ACs and references (spec/20_memory.md), the state of an instruction in
progress, taking an exception and restoring flags (60_exceptions.md R480 to R493). -/

namespace Sys2Proof.Machine

/-! ## Memory (R32, R60) -/

/-- Mem, as a list of (physical word number, word). -/
abbrev Memory := List (Nat × Word)

/-- The word numbered `p`; a word not listed reads 0 (log 3). -/
def Memory.read : Memory → Nat → Word
  | [], _ => 0
  | (k, v) :: t, p => if k = p then v else Memory.read t p

/-- Stores `v` in the word numbered `p`, keeping the canonical form. -/
def Memory.write : Memory → Nat → Word → Memory
  | [], p, v => if v = 0 then [] else [(p, v)]
  | (k, w) :: t, p, v =>
    if k < p then (k, w) :: Memory.write t p v
    else if k = p then (if v = 0 then t else (p, v) :: t)
    else (if v = 0 then (k, w) :: t else (p, v) :: (k, w) :: t)

/-- The canonical form: numbers strictly rising, no zero word listed. -/
def Memory.wf : Memory → Bool
  | [] => true
  | (k, v) :: t => v != 0 && t.all (fun q => k < q.1) && Memory.wf t

/-! ## The ACs (10_state.md R20 to R24) -/

/-- Where AC `n` of block `b` stands in `State.acs`. -/
def acIndex (b : BlockNum) (n : AcNum) : Fin 128 := (b ++ n).toFin

/-- `AC[b][n]` (R20, R22). -/
def State.ac (s : State) (b : BlockNum) (n : AcNum) : Word := s.acs[(acIndex b n).val]

/-- `AC[b][n] <- v`. -/
def State.setAc (s : State) (b : BlockNum) (n : AcNum) (v : Word) : State :=
  { s with acs := s.acs.set (acIndex b n).val v }

/-- `x[n]`: AC `n` of the current block (00_scope.md R12). -/
def State.x (s : State) (n : AcNum) : Word := s.ac s.cab n

/-- `block(c)` (20_memory.md R64). -/
def State.block (s : State) (c : Ctx) : BlockNum :=
  match c with
  | .cur => s.cab
  | .prev => s.pab

/-- `XR(i, c)`: an index register of a context (40_ea_calc.md R153). -/
def State.xr (s : State) (n : AcNum) (c : Ctx) : Word := s.ac (s.block c) n

/-- `space(c)` (20_memory.md R64). -/
def State.space (s : State) (c : Ctx) : Space :=
  match c with
  | .cur => if s.mode = .user then .user else .exec
  | .prev => if s.pcu then .user else .exec

/-! ## The PC (10_state.md R26, R27) -/

/-- `PCsec`. -/
def State.pcSec (s : State) : Sec := secOf s.pc

/-- `PC + k`, in section (R27). -/
def State.pcPlus (s : State) (k : Half) : Addr := mkAddr (secOf s.pc) (offOf s.pc + k)

/-! ## References (20_memory.md R65 to R77) -/

/-- `IsACRef` (R66, R67, R83). -/
def isAcRef (e : EA) : Bool :=
  offOf e.addr ≤ 0o17 && (e.flag == .loc || secOf e.addr == 1)

/-- `ACNum` (R66). -/
def acNumOf (e : EA) : AcNum := e.addr.setWidth 4

/-- `Inc` (R69, R70); past 7777,,777777 GLOBAL, where that is not refused (`Mach.incRef`), a free address (log 13). -/
def inc (e : EA) : EA :=
  match e.flag with
  | .loc => ⟨mkAddr (secOf e.addr) (offOf e.addr + 1), .loc⟩
  | .glob => ⟨if e.addr = 0o7777777777 then Config.incTop else e.addr + 1, .glob⟩

/-- `IncLocal` (46_blt_xblt.md R363): within the section, whatever the flag. -/
def incLocal (e : EA) : EA := ⟨mkAddr (secOf e.addr) (offOf e.addr + 1), e.flag⟩

/-- The step of an XBLT address (46_blt_xblt.md R370): over 30 bits, "mod 2^30". -/
def incGlobal (e : EA) : EA := ⟨e.addr + 1, e.flag⟩

/-- `e` plus an index, by the local/global rule (42_extend.md R240); an index has at most 18 bits (DESIGN CHOICE, log 27). -/
def addIndex (e : EA) (k : Half) : EA :=
  match e.flag with
  | .loc => ⟨mkAddr (secOf e.addr) (offOf e.addr + k), .loc⟩
  | .glob =>
    ⟨if e.addr.toNat + k.toNat < 2 ^ 30 then e.addr + k.setWidth 30 else Config.incTop, .glob⟩

/-- `ConvE` (47_general.md R390, 45_uuo.md R344). -/
def convE (e : EA) : Addr :=
  if e.flag = .loc ∧ offOf e.addr ≤ 0o17 ∧ secOf e.addr ≠ 0 then mkAddr 1 (offOf e.addr) else e.addr

/-- A place that holds one word: an AC of a block, or a physical word. -/
inductive Loc where
  /-- `AC[b][n]` -/
  | ac (b : BlockNum) (n : AcNum)
  /-- a physical word -/
  | cell (p : Nat)
deriving DecidableEq, Repr

/-- The causes of a page fail (60_exceptions.md R484). -/
inductive PageFailCause where
  /-- bits 0 and 1 of an indirect word both set (R158) -/
  | illegalIndirect
  /-- a section at or above NSECT (R74) -/
  | noSection
  /-- `Map` admits no such access (R84) -/
  | noAccess
deriving DecidableEq, Repr

/-- A page fail: the reference that failed, its context and its cause (60_exceptions.md R481). -/
structure PageFail where
  /-- the reference -/
  ref : EA
  /-- its context -/
  ctx : Ctx
  /-- its cause -/
  cause : PageFailCause
deriving DecidableEq, Repr

/-- The number of the first physical word of the user space outside every region (log 4). -/
def userCellBase : Nat := 2 ^ 30

/-- `Map` (R84): the physical word an address of a space stands for, or none where the access is not admitted. -/
def mapLookup (sp : Space) (a : Nat) (acc : Access) : List MapEntry → Option Nat
  | [] => some (match sp with | .exec => a | .user => userCellBase + a)
  | r :: t =>
    if r.space = sp ∧ r.first ≤ a ∧ a < r.first + r.count then
      (r.cell acc).map (· + (a - r.first))
    else mapLookup sp a acc t

/-- The place a reference denotes in a context, or its page fail (R74 to R77, R84). -/
def State.locate (s : State) (e : EA) (c : Ctx) (acc : Access) : Except PageFail Loc :=
  if isAcRef e then .ok (.ac (s.block c) (acNumOf e))
  else if s.cfg.nsect ≤ (secOf e.addr).toNat then .error ⟨e, c, .noSection⟩
  else match mapLookup (s.space c) e.addr.toNat acc s.cfg.map with
    | some p => .ok (.cell p)
    | none => .error ⟨e, c, .noAccess⟩

/-- The word in a place. -/
def State.get (s : State) : Loc → Word
  | .ac b n => s.ac b n
  | .cell p => Memory.read s.mem p

/-- Stores a word in a place. -/
def State.put (s : State) (l : Loc) (v : Word) : State :=
  match l with
  | .ac b n => s.setAc b n v
  | .cell p => { s with mem := Memory.write s.mem p v }

/-- The answer of MAP for an address in a context: a free word for what Map says of it, each access asked and no reference made
(47_general.md R399, 48_xct_pxct.md R457; log 36). -/
def State.mapAnswer (s : State) (e : EA) (c : Ctx) : Word :=
  let ask acc :=
    if s.cfg.nsect ≤ (secOf e.addr).toNat then none else mapLookup (s.space c) e.addr.toNat acc s.cfg.map
  Config.mapWord s.freeCtr (s.space c) e.addr (ask .read) (ask .write) (ask .fetch)

/-- `MemRead` (R76). -/
def State.memRead (s : State) (e : EA) (c : Ctx) : Except PageFail Word :=
  match s.locate e c .read with
  | .ok l => .ok (s.get l)
  | .error pf => .error pf

/-- `MemWrite` (R77). -/
def State.memWrite (s : State) (e : EA) (c : Ctx) (v : Word) : Except PageFail State :=
  match s.locate e c .write with
  | .ok l => .ok (s.put l v)
  | .error pf => .error pf

/-- `fetch()`: a local reference to PC in current context (R72). -/
def State.fetch (s : State) : Except PageFail Word :=
  match s.locate ⟨s.pc, .loc⟩ .cur .fetch with
  | .ok l => .ok (s.get l)
  | .error pf => .error pf

/-! ## An instruction in progress -/

/-- The state while an instruction runs: the word being executed (the innermost one under XCT) and the places written
so far (60_exceptions.md R480, R489; log 21, log 41). -/
structure Mach where
  /-- the state -/
  st : State
  /-- the word being executed; none while it is fetched -/
  iw : Option Word
  /-- the places written so far -/
  log : List Loc

/-- The events that leave the instruction (60_exceptions.md R480); LUUOs are taken by the instruction itself (R483). -/
inductive Trap where
  /-- `raise PageFail` (R481) -/
  | pageFail (pf : PageFail)
  /-- `raise MUUO` with the opcode and AC field of the instruction and its E (R482) -/
  | muuo (op : BitVec 9) (a : AcNum) (e : EA)

/-- The ways an instruction does not complete. -/
inductive Halt where
  /-- an event -/
  | trap (t : Trap) (m : Mach)
  /-- no further state -/
  | fault (f : Fault)
  /-- no meaning -/
  | refused (r : Refusal)

/-- What running part of an instruction gives. -/
abbrev Run (α : Type) := Except Halt α

/-- Stops with a refusal. -/
def refuse {α : Type} (r : Refusal) : Run α := .error (.refused r)

/-- The address 7777,,777777 GLOBAL, the last there is (20_memory.md R70). -/
def atTop (e : EA) : Bool := e.flag == .glob && e.addr == 0o7777777777

/-- The machine at the start of an instruction. -/
def Mach.start (s : State) (iw : Option Word) : Mach := ⟨s, iw, []⟩

/-- `x[n]`. -/
def Mach.x (m : Mach) (n : AcNum) : Word := m.st.x n

/-- `x[n] <- v`. -/
def Mach.setX (m : Mach) (n : AcNum) (v : Word) : Mach :=
  { m with st := m.st.setAc m.st.cab n v, log := .ac m.st.cab n :: m.log }

/-- A case `here` that the spec's own choice refuses: it ends the instruction where the parameter `rulings` is `refuse` (log 47). -/
def Mach.ruling (m : Mach) (here : Bool) (r : Refusal) : Run Unit :=
  if here = true ∧ m.st.cfg.rulings = .refuse then refuse r else .ok ()

/-- `Inc(e)` (20_memory.md R70): past 7777,,777777 GLOBAL refused (D15), or a free address (log 13, log 47). -/
def Mach.incRef (m : Mach) (e : EA) : Run EA := do
  m.ruling (atTop e) .addressTop
  pure (inc e)

/-- Whether a write reference stands for the place `l`. -/
def Mach.writes (m : Mach) (e : EA) (c : Ctx) (l : Loc) : Bool :=
  match m.st.locate e c .write with
  | .ok l' => l' == l
  | .error _ => false

/-- Makes a reference; its page fail ends the instruction (R492). -/
def Mach.locate (m : Mach) (e : EA) (c : Ctx) (acc : Access) : Run Loc :=
  match m.st.locate e c acc with
  | .ok l => .ok l
  | .error pf => .error (.trap (.pageFail pf) m)

/-- `MemRead(e, 1, c)`. -/
def Mach.read (m : Mach) (e : EA) (c : Ctx) : Run Word := do
  let l ← m.locate e c .read
  pure (m.st.get l)

/-- Stores a word in a place and records it. -/
def Mach.put (m : Mach) (l : Loc) (v : Word) : Mach :=
  { m with st := m.st.put l v, log := l :: m.log }

/-- `MemWrite(e, 1, v, c)`. -/
def Mach.write (m : Mach) (e : EA) (c : Ctx) (v : Word) : Run Mach := do
  let l ← m.locate e c .write
  pure (m.put l v)

/-- A write reference whose word is `g` of the word that stood there. -/
def Mach.update (m : Mach) (e : EA) (c : Ctx) (g : Word → Word) : Run Mach := do
  let l ← m.locate e c .write
  pure (m.put l (g (m.st.get l)))

/-- A free word (log 22). -/
def Mach.fresh (m : Mach) : Word := Config.freeWord m.st.freeCtr

/-- The machine after one free value is drawn. -/
def Mach.drawn (m : Mach) : Mach := { m with st := { m.st with freeCtr := m.st.freeCtr + 1 } }

/-- `x[n] <- ` a free value. -/
def Mach.setFree (m : Mach) (n : AcNum) : Mach := (m.setX n m.fresh).drawn

/-- `pc <- a`. -/
def Mach.setPc (m : Mach) (a : Addr) : Mach := { m with st := { m.st with pc := a } }

/-- `pc <- pc + k`, in section (R27). -/
def Mach.advance (m : Mach) (k : Half) : Mach := m.setPc (m.st.pcPlus k)

/-- `pc <- pc + 2` on a skip, else `pc <- pc + 1` (43_jumps.md R282). -/
def Mach.skipIf (m : Mach) (b : Bool) : Mach := m.advance (if b then 2 else 1)

/-- `FLAGS <- f`. -/
def Mach.setFlags (m : Mach) (f : Flags) : Mach := { m with st := { m.st with flags := f } }

/-! ## Taking an exception (60_exceptions.md R480 to R493) -/

/-- PCS holds a section in PCS_BITS bits (10_state.md R25). -/
def State.pcsOf (s : State) (x : Sec) : Sec := BitVec.ofNat 12 (x.toNat % 2 ^ s.cfg.pcsBits)

/-- `SetContext`, the host's action between instructions (R490); flag 6 stays as it is (log 46). -/
def State.setContext (s : State) (pcs : Sec) (pcu : Bool) (pab cab : BlockNum) : State :=
  { s with pcs := s.pcsOf pcs, pcu := pcu, pab := pab, cab := cab }

/-- Every place written before the event holds a free value (R489, 92_eei_decisions.md D20; log 21). -/
def State.scramble (s : State) : List Loc → State
  | [] => s
  | l :: t => State.scramble { s.put l (Config.freeWord s.freeCtr) with freeCtr := s.freeCtr + 1 } t

/-- The base of a process table, the number of a physical word (log 17). -/
def State.tableBase (s : State) : Table → Word
  | .upt => s.upt
  | .ept => s.ept

/-- The context change of an MUUO or page fail (R490): exec mode; PCS, PCU and PAB describe the interrupted context; FLAGS by
`trapFlags`; PC at `a` (R486, R488; log 18, log 19). -/
def State.changeContext (s : State) (a : Addr) : State :=
  { s with
    pc := a
    mode := .exec
    flags := trapFlags s.flags ((Config.freeWord s.freeCtr).setWidth 13)
    pcs := s.pcsOf (secOf s.pc)
    pcu := s.mode == .user
    pab := s.cab
    cab := s.cfg.traps.newCab.getD s.cab
    freeCtr := s.freeCtr + 1 }

/-- The instruction word of the table's `op`, `a` in the implementation's codes (OPCODES). -/
def State.implementedWord (s : State) (op : BitVec 9) (a : AcNum) (e : AddrFields) : Word :=
  let c := implemented s.cfg.opcodes op a
  instrWord c.1 c.2 e

/-- What an event reports beside the state (R484): the opcode and AC field in the implementation's codes, the effective or reference
address, and whether that is one of the user space. -/
structure TrapData where
  /-- opcode and AC field -/
  op : BitVec 9 × AcNum
  /-- the address -/
  ea : EA
  /-- whether it is one of the user space -/
  user : Bool

/-- A value that a trap may store, at the right end of a word (R484, R486, R488). -/
def State.trapValue (s : State) (d : TrapData) : TrapValue → Word
  | .flags => (placeFlags s.flags 0 s.cfg.flagsLayout.bits).setWidth 36
  | .opcode => d.op.1.setWidth 36
  | .acField => d.op.2.setWidth 36
  | .pc => s.pc.setWidth 36
  | .pcNext => (s.pcPlus 1).setWidth 36
  | .address => (convE d.ea).setWidth 36
  | .offset => (offOf d.ea.addr).setWidth 36
  | .processContext => Config.processContextWord s.cab s.pab s.pcs
  | .cab => s.cab.setWidth 36
  | .pab => s.pab.setWidth 36
  | .pcs => s.pcs.setWidth 36
  | .code => (Config.pageFailCode s.freeCtr).setWidth 36
  | .user => (BitVec.ofBool d.user).setWidth 36

/-- A word of a trap block: each value with its last bit at its place, zeros elsewhere. -/
def State.assemble (s : State) (d : TrapData) (fs : List TrapField) : Word :=
  fs.foldr (fun f w => s.trapValue d f.value <<< (35 - f.last) ||| w) 0

/-- The words a trap stores, with their numbers. -/
def State.trapWords (s : State) (d : TrapData) (ws : List TrapWord) : List (Nat × Word) :=
  ws.map fun w => (w.number, s.assemble d w.fields)

/-- Word `k` of a block that the word `base` addresses, in a space or (none) physically, for an access; none where it cannot be
referenced (R487), which includes an address past 7777,,777777 where that is refused (log 47). A word at 1,,0 to 1,,17 is an AC of the
block that is current when the event is taken, whichever the space (DESIGN CHOICE, log 48). -/
def State.blockPlace (s : State) (sp : Option Space) (base : Word) (k : Nat) (acc : Access) : Option Loc :=
  match sp with
  | none => some (.cell (base.toNat + k))
  | some sp =>
    let e := Nat.iterate inc k ⟨addrOf base, .glob⟩
    if s.cfg.rulings = .refuse ∧ 2 ^ 30 ≤ (addrOf base).toNat + k then none
    else if isAcRef e then some (.ac s.cab (acNumOf e))
    else if s.cfg.nsect ≤ (secOf e.addr).toNat then none
    else (mapLookup sp e.addr.toNat acc s.cfg.map).map .cell

/-- Stores words in a block, each at its number; none where one cannot be referenced. -/
def State.storeInBlock (s : State) (sp : Option Space) (base : Word) : List (Nat × Word) → Option State
  | [] => some s
  | (k, v) :: t =>
    match s.blockPlace sp base k .write with
    | none => none
    | some l => (s.put l v).storeInBlock sp base t

/-- What the numbers of a trap's words count from: a space, or (none) physical words, and the word that addresses the first (R487),
`t` being the table of the event. -/
def State.blockBase (s : State) (b : TrapBase) (t : Table) : Option Space × Word :=
  match b with
  | .table t' => (none, s.tableBase (t'.getD t))
  | .block b => (b.space, s.get (.cell ((s.tableBase (b.table.getD t)).toNat + b.word)))

/-- The number of the word that holds the new PC (R488). -/
def State.newPcNumber (s : State) (n : NewPcWord) : Nat :=
  if s.mode = .user then if publicFlag s.flags then n.userPublic else n.user
  else if publicFlag s.flags then n.execPublic else n.exec

/-- Entry of an MUUO or a page fail (R485, R490, R493): the words stored, then the context change to bits 6-35 of the new-PC word; none
where a word cannot be referenced. `t` is the table of the event. -/
def State.enter (s : State) (en : TrapEntry) (t : Table) (d : TrapData) : Option State :=
  let at' := s.blockBase en.base t
  let pcAt := s.blockBase en.newPc.base t
  match s.storeInBlock at'.1 at'.2 (s.trapWords d en.words) with
  | none => none
  | some s' =>
    (s'.blockPlace pcAt.1 pcAt.2 (s.newPcNumber en.newPc) .read).map fun l => s'.changeContext (addrOf (s'.get l))

/-- The table of a page fail: that of the space of the reference that failed (R481). -/
def State.pageFailTable (s : State) (pf : PageFail) : Table := if s.space pf.ctx = .user then .upt else .ept

/-- The event of a page fail (R481, R484). -/
def pageFailEvent (s : State) (iw : Option Word) (pf : PageFail) : TrapEvent :=
  { kind := .pageFail, table := some (s.pageFailTable pf)
    op := iw.map (fun w => implemented s.cfg.opcodes (opField w) (acField w)), pcStored := none, eStored := convE pf.ref
    flags := s.flags }

/-- The event of an MUUO (R482). -/
def muuoEvent (s : State) (op : BitVec 9) (a : AcNum) (e : EA) : TrapEvent :=
  { kind := .muuo, table := some .upt, op := some (implemented s.cfg.opcodes op a), pcStored := some (s.pcPlus 1)
    eStored := convE e, flags := s.flags }

/-- What an MUUO reports (R482). -/
def State.muuoData (s : State) (op : BitVec 9) (a : AcNum) (e : EA) : TrapData :=
  { op := implemented s.cfg.opcodes op a, ea := e, user := s.mode == .user }

/-- What a page fail reports (R481); of a failing fetch no opcode is known, and a free one stands for it (log 19). -/
def State.pageFailData (s : State) (iw : Option Word) (pf : PageFail) : TrapData :=
  { op := match iw with
      | some w => implemented s.cfg.opcodes (opField w) (acField w)
      | none => Config.unreadOpcode s.freeCtr
    ea := pf.ref, user := s.space pf.ctx == .user }

/-- An event with its entry, or, where TRAP_LAYOUT gives none or a word of it cannot be referenced, the terminal event (R480,
R494). -/
def enterBy (s : State) (en : Option TrapEntry) (t : Table) (d : TrapData) (ev : TrapEvent) : Host.Outcome State Fault Refusal :=
  match en.bind fun en => s.enter en t d with
  | some s' => .next s'
  | none => .fault (.terminalTrap ev)

/-- TAKING AN EXCEPTION (R480): the entry TRAP_LAYOUT gives, or the terminal event. -/
def takeTrap (t : Trap) (m : Mach) : Host.Outcome State Fault Refusal :=
  let s := m.st.scramble m.log
  match t with
  | .pageFail pf => enterBy s s.cfg.traps.pageFail (s.pageFailTable pf) (s.pageFailData m.iw pf) (pageFailEvent s m.iw pf)
  | .muuo op a e => enterBy s s.cfg.traps.muuo .upt (s.muuoData op a e) (muuoEvent s op a e)

/-- RETURNING FROM ONE (R494): FLAGS and MODE restored from a flags field, PC from an address (43_jumps.md R272, R273). PCU stays
as it is, whatever flag 6 becomes (log 46). -/
def Mach.restore (m : Mach) (f : Flags) (a : Addr) : Mach :=
  let f' := restoredFlags m.st.flags f
  { m with st := { m.st with flags := f', mode := modeOf f', pc := a } }

/-! ## Running one instruction -/

/-- The control bits of a PXCT (30_encoding.md R116). -/
structure Px where
  /-- E1, weight 10 -/
  e1 : Bool
  /-- D1, weight 4 -/
  d1 : Bool
  /-- E2, weight 2 -/
  e2 : Bool
  /-- D2, weight 1 -/
  d2 : Bool
deriving DecidableEq, Repr

/-- The control bits in an AC field (R116). -/
def pxOf (n : AcNum) : Px := ⟨n.getMsbD 0, n.getMsbD 1, n.getMsbD 2, n.getMsbD 3⟩

/-- How an instruction was reached (10_state.md R34): the section its word was fetched from, and the control bits of the PXCT that
executes it. -/
structure Frame where
  /-- the section the word was fetched from (48_xct_pxct.md R434) -/
  sec : Sec
  /-- the PXCT's bits, if any -/
  px : Option Px

/-- The meaning of an instruction: what it does to the machine, reached through a frame. -/
abbrev Body := Frame → Mach → Run Mach

/-- The frame of the instruction at PC (47_general.md R412). -/
def State.top (s : State) : Frame := ⟨s.pcSec, none⟩

/-- One instruction as a step: a body run at PC, its event taken (R412, R480). -/
def runTop (iw : Word) (b : Body) (s : State) : Host.Outcome State Fault Refusal :=
  match b s.top (.start s (some iw)) with
  | .ok m => .next m.st
  | .error (.trap t m) => takeTrap t m
  | .error (.fault f) => .fault f
  | .error (.refused r) => .refused r

end Sys2Proof.Machine
end

