-- ==== Sys2Proof/Machine/Operands.lean ====
section
/-! DEFINITION. Every operand form: the EA-calc (spec/40_ea_calc.md) and its PXCT form (48_xct_pxct.md R444 to R448), byte pointers
(30_encoding.md R108 to R112, 41_byte.md R201 to R211, 42_extend.md R234 to R236), stack pointers (44_stack.md R311 to
R314), the stored PC (43_jumps.md R275). -/

namespace Sys2Proof.Machine

/-! ## The EA-calc -/

/-- An address word, classified (40_ea_calc.md R152). -/
inductive AddrWord where
  /-- instruction format: I, X and an 18-bit Y (30_encoding.md R102) -/
  | ifiw (e : AddrFields)
  /-- extended format: I, X and a 30-bit Y (30_encoding.md R103) -/
  | efiw (i : Bool) (x : AcNum) (y : Addr)
deriving DecidableEq, Repr

/-- The indirect bit. -/
def AddrWord.ind : AddrWord → Bool
  | .ifiw e => e.i
  | .efiw i _ _ => i

/-- The index register address, 0 for none (R153). -/
def AddrWord.idx : AddrWord → AcNum
  | .ifiw e => e.x
  | .efiw _ x _ => x

/-- `BY_BITS` (30_encoding.md R105): the class of a word met in section `s`, none for an illegal indirect word (R158). -/
def classify (w : Word) (s : Sec) : Option AddrWord :=
  if s = 0 then some (.ifiw (fieldsOf w))
  else if bitAt w 0 = false then some (.efiw (efiwI w) (efiwX w) (efiwY w))
  else if bitAt w 1 = false then some (.ifiw (fieldsOf w))
  else none

/-- A local index in section `s` (40_ea_calc.md R153). -/
def localIndex (s : Sec) (xr : Word) : Bool := s == 0 || bitAt xr 0 || secField xr == 0

/-- One iteration: the address and flag of an address word in section `s`, `xr` its index register's content
(40_ea_calc.md R154 to R157). -/
def eaIter (aw : AddrWord) (s : Sec) (xr : Word) : EA :=
  match aw with
  | .ifiw e =>
    if e.x = 0 then ⟨mkAddr s e.y, .loc⟩
    else if localIndex s xr then ⟨mkAddr s (e.y + rh xr), .loc⟩
    else ⟨sext30 e.y + addrOf xr, .glob⟩
  | .efiw _ x y => if x = 0 then ⟨y, .glob⟩ else ⟨y + addrOf xr, .glob⟩

/-- Why an EA-calc yields no address. -/
inductive EaStop where
  /-- a page fail (R158, R159) -/
  | pageFail (pf : PageFail)
  /-- the chain does not end (R168) -/
  | endless
deriving DecidableEq, Repr

/-- `EACalc` (40_ea_calc.md R163) from a classified address word, with at most `fuel` address words. Beside the result, the last
word whose left half entered the calculation, `lw` at first (43_jumps.md R272). -/
def eaLoop (st : State) (c : Ctx) : Nat → AddrWord → Sec → Word → Except EaStop (EA × Word)
  | 0, _, _, _ => .error .endless
  | fuel + 1, aw, s, lw =>
    let xr := st.xr aw.idx c
    let ea := eaIter aw s xr
    if aw.ind then
      match st.memRead ea c with
      | .error pf => .error (.pageFail pf)
      | .ok w =>
        match classify w (secOf ea.addr) with
        | none => .error (.pageFail ⟨ea, c, .illegalIndirect⟩)
        | some aw' => eaLoop st c fuel aw' (secOf ea.addr) w
    else .ok (ea, if aw.idx = 0 then lw else xr)

/-- More address words than an EA-calc that ends can have: each after the first is fetched through one of 2^31 references, and
the calculation writes nothing (R168, R169; log 37). -/
def eaFuel : Nat := 2 ^ 32

/-- `EACalc(w, fmt, s, c)` (40_ea_calc.md R163), the word already classified. -/
def State.eaCalc (st : State) (aw : AddrWord) (s : Sec) (c : Ctx) : Except EaStop EA :=
  match eaLoop st c eaFuel aw s 0 with
  | .ok r => .ok r.1
  | .error x => .error x

/-- The pre-processing of a set E bit: section and context of the EA-calc (48_xct_pxct.md R446). -/
def pxSec (st : State) (s : Sec) (eb : Bool) : Sec := if eb then st.pcs else s

/-- CUR or PREV, by a control bit (R443). -/
def ctxOf (b : Bool) : Ctx := if b then .prev else .cur

/-- The post-processing (48_xct_pxct.md R448). -/
def pxPost (st : State) (eb db : Bool) (ea : EA) : EA :=
  if ea.flag = .loc ∧ eb = false ∧ db = true then ⟨mkAddr st.pcs (offOf ea.addr), .loc⟩ else ea

/-- `PXEACalc` (48_xct_pxct.md R447), the word already classified in the section `pxSec` gives. -/
def State.pxEaCalc (st : State) (aw : AddrWord) (s : Sec) (eb db : Bool) : Except EaStop EA :=
  match st.eaCalc aw (pxSec st s eb) (ctxOf eb) with
  | .ok ea => .ok (pxPost st eb db ea)
  | .error x => .error x

/-- An EA-calc inside an instruction (R492). -/
def Mach.ea {α : Type} (m : Mach) (r : Except EaStop α) : Run α :=
  match r with
  | .ok x => .ok x
  | .error (.pageFail pf) => .error (.trap (.pageFail pf) m)
  | .error .endless => .error (.fault .stuck)

/-- The rows of the table of 48_xct_pxct.md R444 an instruction word can fall in. -/
inductive PxClass where
  /-- General, R450: 4, 14 -/
  | general
  /-- PUSH and POP, R452: 4, 14 -/
  | stack
  /-- Immediate, R451: 10, and 14 as 10 -/
  | immediate
  /-- BLT, R453: 5, 15 -/
  | blt
  /-- Byte, R455: 1, 3, 7, 17 -/
  | byte
  /-- not to be executed by a PXCT (R445) -/
  | inapplicable
deriving DecidableEq, Repr

/-- The legal control bits of a class (R444). -/
def PxClass.legal (k : PxClass) (p : Px) : Bool :=
  match k with
  | .general | .stack => p.d1 && !p.e2 && !p.d2
  | .immediate => p.e1 && !p.e2 && !p.d2
  | .blt => p.d1 && !p.e2 && p.d2
  | .byte => p.d2 && (!p.d1 || p.e2) && (!p.e1 || p.d1)
  | .inapplicable => false

/-- The bits that move the EA-calc and the data reference of an instruction word; an immediate has no data reference (R451). -/
def PxClass.bits (k : PxClass) (p : Px) : Bool × Bool :=
  match k with
  | .immediate => (p.e1, false)
  | _ => (p.e1, p.d1)

/-- The frame's control bits, all clear without a PXCT. -/
def Frame.bits (f : Frame) : Px := f.px.getD ⟨false, false, false, false⟩

/-- A PXCT of what may not be executed, or with other bits than R444 lists, is refused (R445, R460; log 31). -/
def Frame.guard (f : Frame) (k : PxClass) : Run Unit :=
  match f.px with
  | none => .ok ()
  | some p =>
    if k = .inapplicable then refuse .pxctInapplicable
    else if k.legal p then .ok () else refuse .pxctIllegalBits

/-- E of an instruction word: the EA-calc "performed on every instruction before it is executed" (40_ea_calc.md R150; 47_general.md
R412), in the instruction's frame and PXCT class. -/
def instrEa (k : PxClass) (e : AddrFields) (f : Frame) (m : Mach) : Run EA := do
  f.guard k
  m.ea (m.st.pxEaCalc (.ifiw e) f.sec (k.bits f.bits).1 (k.bits f.bits).2)

/-- The context of the reference made to E: PREV under D1 (R450). -/
def Frame.dataCtx (f : Frame) : Ctx := ctxOf f.bits.d1

/-! ## Byte pointers -/

/-- `DecodeBP` (30_encoding.md R111). -/
def decodeBP (w : Word) (sz : Sec) : BpKind :=
  if 36 < (bpP w).toNat then .oneGlobal
  else if bitAt w 12 = false then .oneLocal
  else if sz = 0 then .oneLocal
  else .twoGlobal

/-- The (P, S) a code has in an OWGBP_TABLE; by the default table none for the reserved 77 (R109). -/
def owgbpDecode (table : List (Nat × Nat)) (code : Nat) : Option (Nat × Nat) := table[code - 0o45]?

/-- The code of a (P, S); none where the table has none, or where it is above 77 (41_byte.md R211; log 10). -/
def owgbpEncode (table : List (Nat × Nat)) (p s : Nat) : Option (BitVec 6) :=
  let code := table.idxOf (p, s) + 0o45
  if table.idxOf (p, s) < table.length ∧ code ≤ 0o77 then some (BitVec.ofNat 6 code) else none

/-- P and S of a pointer (41_byte.md R205). -/
def bpFields (cfg : Config) (k : BpKind) (w : Word) : Run (Nat × Nat) :=
  match k with
  | .oneGlobal =>
    match owgbpDecode cfg.owgbp (bpP w).toNat with
    | some ps => .ok ps
    | none => refuse .owgbpReserved
  | _ => .ok ((bpP w).toNat, (bpS w).toNat)

/-- The byte of `w` at position `p` and size `s`, right-justified (30_encoding.md R112; outside the word, log 12). -/
def byteOf (p s : Nat) (w : Word) : Word :=
  if p + s ≤ 36 then (w >>> p) &&& BitVec.ofNat 36 (2 ^ s - 1) else Config.oddByte p s w

/-- `w` with that byte replaced by the low `s` bits of `b` (41_byte.md R207; outside the word, log 12). -/
def depositByte (p s : Nat) (w b : Word) : Word :=
  if p + s ≤ 36 then
    let mask : Word := BitVec.ofNat 36 (2 ^ s - 1) <<< p
    (w &&& ~~~mask) ||| ((b <<< p) &&& mask)
  else Config.oddDeposit p s w b

/-- The stepped position of a pointer: `P - S`, else `36 - S` with the address stepped (41_byte.md R211; S above 36, log 12). -/
def stepPosition (p s : Nat) : BitVec 6 × Bool :=
  if s ≤ p then (BitVec.ofNat 6 (p - s), false)
  else if s ≤ 36 then (BitVec.ofNat 6 (36 - s), true)
  else (Config.oddPosition p s, true)

/-- The default of `BYTE_INCREMENT` (41_byte.md R211). -/
def incStandard (cfg : Config) (k : BpKind) (w1 w2 : Word) : Run (Word × Word) := do
  let (p, s) ← bpFields cfg k w1
  let (p', step) := stepPosition p s
  match k with
  | .oneLocal => pure (withP (join (lh w1) (rh w1 + if step then 1 else 0)) p', w2)
  | .twoGlobal =>
    let w2' := if !step then w2
      else if bitAt w2 0 then join (lh w2) (rh w2 + 1) else withAddr w2 (addrOf w2 + 1)
    pure (withP w1 p', w2')
  | .oneGlobal =>
    let a := addrOf w1 + if step then 1 else 0
    match owgbpEncode cfg.owgbp p'.toNat s with
    | some code => pure (code ++ a, w2)
    | none => refuse .owgbpReserved

/-- `IncBP` (41_byte.md R211): the two words of a pointer, stepped by the parameter BYTE_INCREMENT; the second matters in the two-word
format only. -/
def incBP (cfg : Config) (k : BpKind) (w1 w2 : Word) : Run (Word × Word) :=
  match cfg.byteIncrement with
  | .standard => incStandard cfg k w1 w2
  | .other n => .ok (Config.byteStep n k w1 w2)

/-- The EA-calc of a byte pointer (41_byte.md R204, 42_extend.md R236): `s` is the section of its address word, `at'` and `c` the
reference and the context that word was fetched through, which the page fail of an illegal second word reports (60_exceptions.md
R481; log 39), `eb`, `db` its PXCT control bits. -/
def bpAddress (m : Mach) (k : BpKind) (w1 w2 : Word) (s : Sec) (at' : EA) (c : Ctx) (eb db : Bool) : Run EA :=
  match k with
  | .oneLocal => m.ea (m.st.pxEaCalc (.ifiw (fieldsOf w1)) s eb db)
  | .oneGlobal => .ok ⟨addrOf w1, .glob⟩
  | .twoGlobal =>
    match classify w2 (pxSec m.st s eb) with
    | some aw => m.ea (m.st.pxEaCalc aw s eb db)
    | none => .error (.trap (.pageFail ⟨at', c, .illegalIndirect⟩) m)

/-! ## Stack pointers -/

/-- `SPGlobal` (44_stack.md R311). -/
def spGlobal (pcSec : Sec) (sp : Word) : Bool := pcSec != 0 && !bitAt sp 0 && secField sp != 0

/-- The stack address of a pointer whose format is `g` (44_stack.md R312). -/
def stackAddr (pcSec : Sec) (g : Bool) (sp : Word) : EA :=
  if g then ⟨addrOf sp, .glob⟩ else ⟨mkAddr pcSec (rh sp), .loc⟩

/-- `SPInc` (44_stack.md R313): "mod 2^30"; the step past 7777,,777777 is refused before it (log 47). -/
def spInc (g : Bool) (sp : Word) : Word :=
  if g then withAddr sp (addrOf sp + 1) else join (lh sp + 1) (rh sp + 1)

/-- `SPDec` (44_stack.md R314). -/
def spDec (g : Bool) (sp : Word) : Word :=
  if g then withAddr sp (addrOf sp - 1) else join (lh sp - 1) (rh sp - 1)

/-- The parameter STACK_OVERFLOW on a step of a local pointer whose count half is `limit` before it (44_stack.md R318; log 33). -/
def stackCheck (m : Mach) (g : Bool) (sp : Word) (limit : Half) : Run Unit :=
  if !g ∧ lh sp = limit ∧ m.st.cfg.stackOverflow = .refuse then refuse .stackOverflow else .ok ()

/-! ## The stored PC -/

/-- `PCWord` (43_jumps.md R275). -/
def State.pcWord (s : State) : Word :=
  if s.pcSec = 0 then flagsPC s.cfg.flagsLayout s.flags (offOf (s.pcPlus 1)) else wordOfAddr (s.pcPlus 1)

end Sys2Proof.Machine
end

