-- ==== Sys2Proof/Machine/DataStep.lean ====
section
/-! DEFINITION. The general data step (spec/47_general.md R400, 43_jumps.md R282, R283): references, operands and results as the
rules give them; the function f, "not in the source", is a free value of the operands (log 6, log 7, log 8, log 42). -/

namespace Sys2Proof.Machine

/-- What an instruction does with the word at E, by its mode suffix (R400). -/
inductive MemUse where
  /-- I: the operand is `0,,off(E)`, no reference is made (R393) -/
  | imm
  /-- no suffix: reads -/
  | read
  /-- M: writes -/
  | write
  /-- S and B: reads and writes -/
  | both
deriving DecidableEq, Repr

/-- The shape of an instruction of the classes of R400 to R408. -/
structure DataShape where
  /-- use of memory -/
  use : MemUse
  /-- words at E, Inc(E), ... -/
  words : Nat := 1
  /-- AC operands, as offsets from A -/
  ins : List AcNum := [0]
  /-- AC results, as offsets from A -/
  outs : List AcNum := [0]
  /-- the AC results are written only when A is not 0 (R397) -/
  unlessAc0 : Bool := false
  /-- a skip instruction -/
  skips : Bool := false
  /-- its row in the table of 48_xct_pxct.md R444 -/
  px : PxClass := .general
deriving DecidableEq, Repr

/-- No suffix: reads E, result in AC A. -/
def shapeBasic : DataShape := { use := .read }

/-- I: immediate, result in AC A. -/
def shapeImm : DataShape := { use := .imm, px := .immediate }

/-- M: result written to E. -/
def shapeMem : DataShape := { use := .write, outs := [] }

/-- B: reads and writes E, result also in AC A. -/
def shapeBoth : DataShape := { use := .both }

/-- S: reads and writes E, result also in AC A unless A is 0. -/
def shapeSelf : DataShape := { use := .both, unlessAc0 := true }

/-- The words at `e`, `Inc(e)`, ..., read in order (20_memory.md R70). -/
def readWords (m : Mach) (c : Ctx) : Nat → EA → Run (List Word)
  | 0, _ => .ok []
  | n + 1, e => do
    let v ← m.read e c
    m.ruling (n != 0 && atTop e) .addressTop
    let vs ← readWords m c n (inc e)
    pure (v :: vs)

/-- The memory results of opcode `op`, numbered from `k`, written at `e`, `Inc(e)`, ... in order; a result may depend on the word
it replaces. -/
def writeResults (op : Nat) (args : List Word) (c : Ctx) : Nat → Nat → EA → Mach → Run Mach
  | _, 0, _, m => .ok m
  | k, n + 1, e, m => do
    let m ← m.update e c (fun old => Config.dataResult op k (old :: args))
    m.ruling (n != 0 && atTop e) .addressTop
    writeResults op args c (k + 1) n (inc e) m

/-- The AC results of opcode `op`: AC `a + d` receives result `8 + d`. -/
def setResults (op : Nat) (args : List Word) (a : AcNum) : List AcNum → Mach → Mach
  | [], m => m
  | d :: t, m => setResults op args a t (m.setX (a + d) (Config.dataResult op (8 + d.toNat) args))

/-- The flags of the data step of `op` (log 8). -/
def Mach.dataFlags (m : Mach) (op : Nat) (args : List Word) : Mach :=
  m.setFlags (mergeFlags m.st.flags (Config.dataFlags op args))

/-- The operand words of a shape: AC operands, then what memory or E supplies. -/
def dataOperands (sh : DataShape) (a : AcNum) (ea : EA) (c : Ctx) (m : Mach) : Run (List Word) := do
  let acs := sh.ins.map (fun d => m.x (a + d))
  match sh.use with
  | .imm => pure (acs ++ [join 0 (offOf ea.addr)])
  | .write => pure acs
  | .read | .both =>
    let ws ← readWords m c sh.words ea
    pure (acs ++ ws)

/-- An instruction of the classes of R400: E, operands, memory results, AC results, flags, PC. -/
def dataOp (op : Nat) (sh : DataShape) (a : AcNum) (e : AddrFields) : Body := fun f m => do
  let ea ← instrEa sh.px e f m
  let args ← dataOperands sh a ea f.dataCtx m
  let m ← match sh.use with
    | .write | .both => writeResults op args f.dataCtx 0 sh.words ea m
    | .imm | .read => pure m
  let m := if sh.unlessAc0 && a == 0 then m else setResults op args a sh.outs m
  let m := m.dataFlags op args
  pure (m.skipIf (sh.skips && Config.dataCond op args))

/-- A conditional jump (43_jumps.md R283): AC results, flags, then the jump to E or the next instruction. -/
def jumpOp (op : Nat) (outs : List AcNum) (a : AcNum) (e : AddrFields) : Body := fun f m => do
  let ea ← instrEa .inapplicable e f m
  let args := [m.x a]
  let m := setResults op args a outs m
  let m := m.dataFlags op args
  pure (if Config.dataCond op args then m.setPc ea.addr else m.advance 1)

/-- JFCL: the flags and the AC field decide, and no AC is read or written (43_jumps.md R283; log 42). -/
def flagJumpOp (op : Nat) (a : AcNum) (e : AddrFields) : Body := fun f m => do
  let ea ← instrEa .inapplicable e f m
  let args := [m.st.flags.setWidth 36, a.setWidth 36]
  let m := m.dataFlags op args
  pure (if Config.dataCond op args then m.setPc ea.addr else m.advance 1)

end Sys2Proof.Machine
end

