-- ==== Sys2Proof/Machine/Arith.lean ====
section
/-! DEFINITION. Fixed-point arithmetic (spec/47_general.md R403): the references of R400 and free results (log 6, log 7, log 8). -/

namespace Sys2Proof.Machine

/-- DADD (R403). -/
def bodyDadd (a : AcNum) (e : AddrFields) : Body := dataOp 0o114 { use := .read, words := 2, ins := [0, 1], outs := [0, 1] } a e

/-- DSUB (R403). -/
def bodyDsub (a : AcNum) (e : AddrFields) : Body := dataOp 0o115 { use := .read, words := 2, ins := [0, 1], outs := [0, 1] } a e

/-- DMUL (R403). -/
def bodyDmul (a : AcNum) (e : AddrFields) : Body := dataOp 0o116 { use := .read, words := 2, ins := [0, 1], outs := [0, 1, 2, 3] } a e

/-- DDIV (R403). -/
def bodyDdiv (a : AcNum) (e : AddrFields) : Body := dataOp 0o117 { use := .read, words := 2, ins := [0, 1, 2, 3], outs := [0, 1, 2, 3] } a e

/-- IMUL (R403). -/
def bodyImul (a : AcNum) (e : AddrFields) : Body := dataOp 0o220 shapeBasic a e

/-- IMULI (R403). -/
def bodyImuli (a : AcNum) (e : AddrFields) : Body := dataOp 0o221 shapeImm a e

/-- IMULM (R403). -/
def bodyImulm (a : AcNum) (e : AddrFields) : Body := dataOp 0o222 shapeMem a e

/-- IMULB (R403). -/
def bodyImulb (a : AcNum) (e : AddrFields) : Body := dataOp 0o223 shapeBoth a e

/-- MUL (R403). -/
def bodyMul (a : AcNum) (e : AddrFields) : Body := dataOp 0o224 { shapeBasic with outs := [0, 1] } a e

/-- MULI (R403). -/
def bodyMuli (a : AcNum) (e : AddrFields) : Body := dataOp 0o225 { shapeImm with outs := [0, 1] } a e

/-- MULM (R403). -/
def bodyMulm (a : AcNum) (e : AddrFields) : Body := dataOp 0o226 shapeMem a e

/-- MULB (R403). -/
def bodyMulb (a : AcNum) (e : AddrFields) : Body := dataOp 0o227 { shapeBoth with outs := [0, 1] } a e

/-- IDIV (R403). -/
def bodyIdiv (a : AcNum) (e : AddrFields) : Body := dataOp 0o230 { shapeBasic with outs := [0, 1] } a e

/-- IDIVI (R403). -/
def bodyIdivi (a : AcNum) (e : AddrFields) : Body := dataOp 0o231 { shapeImm with outs := [0, 1] } a e

/-- IDIVM (R403). -/
def bodyIdivm (a : AcNum) (e : AddrFields) : Body := dataOp 0o232 shapeMem a e

/-- IDIVB (R403). -/
def bodyIdivb (a : AcNum) (e : AddrFields) : Body := dataOp 0o233 { shapeBoth with outs := [0, 1] } a e

/-- DIV (R403). -/
def bodyDiv (a : AcNum) (e : AddrFields) : Body := dataOp 0o234 { shapeBasic with outs := [0, 1], ins := [0, 1] } a e

/-- DIVI (R403). -/
def bodyDivi (a : AcNum) (e : AddrFields) : Body := dataOp 0o235 { shapeImm with outs := [0, 1], ins := [0, 1] } a e

/-- DIVM (R403). -/
def bodyDivm (a : AcNum) (e : AddrFields) : Body := dataOp 0o236 { shapeMem with ins := [0, 1] } a e

/-- DIVB (R403). -/
def bodyDivb (a : AcNum) (e : AddrFields) : Body := dataOp 0o237 { shapeBoth with outs := [0, 1], ins := [0, 1] } a e

/-- ADD (R403). -/
def bodyAdd (a : AcNum) (e : AddrFields) : Body := dataOp 0o270 shapeBasic a e

/-- ADDI (R403). -/
def bodyAddi (a : AcNum) (e : AddrFields) : Body := dataOp 0o271 shapeImm a e

/-- ADDM (R403). -/
def bodyAddm (a : AcNum) (e : AddrFields) : Body := dataOp 0o272 shapeMem a e

/-- ADDB (R403). -/
def bodyAddb (a : AcNum) (e : AddrFields) : Body := dataOp 0o273 shapeBoth a e

/-- SUB (R403). -/
def bodySub (a : AcNum) (e : AddrFields) : Body := dataOp 0o274 shapeBasic a e

/-- SUBI (R403). -/
def bodySubi (a : AcNum) (e : AddrFields) : Body := dataOp 0o275 shapeImm a e

/-- SUBM (R403). -/
def bodySubm (a : AcNum) (e : AddrFields) : Body := dataOp 0o276 shapeMem a e

/-- SUBB (R403). -/
def bodySubb (a : AcNum) (e : AddrFields) : Body := dataOp 0o277 shapeBoth a e

/-- DADD as a step. -/
def execDadd (a : AcNum) (e : AddrFields) (s : State) : Host.Outcome State Fault Refusal :=
  runTop (instrWord 0o114 a e) (bodyDadd a e) s

/-- DSUB as a step. -/
def execDsub (a : AcNum) (e : AddrFields) (s : State) : Host.Outcome State Fault Refusal :=
  runTop (instrWord 0o115 a e) (bodyDsub a e) s

/-- DMUL as a step. -/
def execDmul (a : AcNum) (e : AddrFields) (s : State) : Host.Outcome State Fault Refusal :=
  runTop (instrWord 0o116 a e) (bodyDmul a e) s

/-- DDIV as a step. -/
def execDdiv (a : AcNum) (e : AddrFields) (s : State) : Host.Outcome State Fault Refusal :=
  runTop (instrWord 0o117 a e) (bodyDdiv a e) s

/-- IMUL as a step. -/
def execImul (a : AcNum) (e : AddrFields) (s : State) : Host.Outcome State Fault Refusal :=
  runTop (instrWord 0o220 a e) (bodyImul a e) s

/-- IMULI as a step. -/
def execImuli (a : AcNum) (e : AddrFields) (s : State) : Host.Outcome State Fault Refusal :=
  runTop (instrWord 0o221 a e) (bodyImuli a e) s

/-- IMULM as a step. -/
def execImulm (a : AcNum) (e : AddrFields) (s : State) : Host.Outcome State Fault Refusal :=
  runTop (instrWord 0o222 a e) (bodyImulm a e) s

/-- IMULB as a step. -/
def execImulb (a : AcNum) (e : AddrFields) (s : State) : Host.Outcome State Fault Refusal :=
  runTop (instrWord 0o223 a e) (bodyImulb a e) s

/-- MUL as a step. -/
def execMul (a : AcNum) (e : AddrFields) (s : State) : Host.Outcome State Fault Refusal :=
  runTop (instrWord 0o224 a e) (bodyMul a e) s

/-- MULI as a step. -/
def execMuli (a : AcNum) (e : AddrFields) (s : State) : Host.Outcome State Fault Refusal :=
  runTop (instrWord 0o225 a e) (bodyMuli a e) s

/-- MULM as a step. -/
def execMulm (a : AcNum) (e : AddrFields) (s : State) : Host.Outcome State Fault Refusal :=
  runTop (instrWord 0o226 a e) (bodyMulm a e) s

/-- MULB as a step. -/
def execMulb (a : AcNum) (e : AddrFields) (s : State) : Host.Outcome State Fault Refusal :=
  runTop (instrWord 0o227 a e) (bodyMulb a e) s

/-- IDIV as a step. -/
def execIdiv (a : AcNum) (e : AddrFields) (s : State) : Host.Outcome State Fault Refusal :=
  runTop (instrWord 0o230 a e) (bodyIdiv a e) s

/-- IDIVI as a step. -/
def execIdivi (a : AcNum) (e : AddrFields) (s : State) : Host.Outcome State Fault Refusal :=
  runTop (instrWord 0o231 a e) (bodyIdivi a e) s

/-- IDIVM as a step. -/
def execIdivm (a : AcNum) (e : AddrFields) (s : State) : Host.Outcome State Fault Refusal :=
  runTop (instrWord 0o232 a e) (bodyIdivm a e) s

/-- IDIVB as a step. -/
def execIdivb (a : AcNum) (e : AddrFields) (s : State) : Host.Outcome State Fault Refusal :=
  runTop (instrWord 0o233 a e) (bodyIdivb a e) s

/-- DIV as a step. -/
def execDiv (a : AcNum) (e : AddrFields) (s : State) : Host.Outcome State Fault Refusal :=
  runTop (instrWord 0o234 a e) (bodyDiv a e) s

/-- DIVI as a step. -/
def execDivi (a : AcNum) (e : AddrFields) (s : State) : Host.Outcome State Fault Refusal :=
  runTop (instrWord 0o235 a e) (bodyDivi a e) s

/-- DIVM as a step. -/
def execDivm (a : AcNum) (e : AddrFields) (s : State) : Host.Outcome State Fault Refusal :=
  runTop (instrWord 0o236 a e) (bodyDivm a e) s

/-- DIVB as a step. -/
def execDivb (a : AcNum) (e : AddrFields) (s : State) : Host.Outcome State Fault Refusal :=
  runTop (instrWord 0o237 a e) (bodyDivb a e) s

/-- ADD as a step. -/
def execAdd (a : AcNum) (e : AddrFields) (s : State) : Host.Outcome State Fault Refusal :=
  runTop (instrWord 0o270 a e) (bodyAdd a e) s

/-- ADDI as a step. -/
def execAddi (a : AcNum) (e : AddrFields) (s : State) : Host.Outcome State Fault Refusal :=
  runTop (instrWord 0o271 a e) (bodyAddi a e) s

/-- ADDM as a step. -/
def execAddm (a : AcNum) (e : AddrFields) (s : State) : Host.Outcome State Fault Refusal :=
  runTop (instrWord 0o272 a e) (bodyAddm a e) s

/-- ADDB as a step. -/
def execAddb (a : AcNum) (e : AddrFields) (s : State) : Host.Outcome State Fault Refusal :=
  runTop (instrWord 0o273 a e) (bodyAddb a e) s

/-- SUB as a step. -/
def execSub (a : AcNum) (e : AddrFields) (s : State) : Host.Outcome State Fault Refusal :=
  runTop (instrWord 0o274 a e) (bodySub a e) s

/-- SUBI as a step. -/
def execSubi (a : AcNum) (e : AddrFields) (s : State) : Host.Outcome State Fault Refusal :=
  runTop (instrWord 0o275 a e) (bodySubi a e) s

/-- SUBM as a step. -/
def execSubm (a : AcNum) (e : AddrFields) (s : State) : Host.Outcome State Fault Refusal :=
  runTop (instrWord 0o276 a e) (bodySubm a e) s

/-- SUBB as a step. -/
def execSubb (a : AcNum) (e : AddrFields) (s : State) : Host.Outcome State Fault Refusal :=
  runTop (instrWord 0o277 a e) (bodySubb a e) s

end Sys2Proof.Machine
end

