-- ==== Sys2Proof/Machine/Boolean.lean ====
section
/-! DEFINITION. The Boolean class (spec/47_general.md R404) but SETZB and XMOVEI: the references of R400 and free results (log 6, log 7). -/

namespace Sys2Proof.Machine

/-- SETZ (R404). -/
def bodySetz (a : AcNum) (e : AddrFields) : Body := dataOp 0o400 shapeBasic a e

/-- SETZI (R404). -/
def bodySetzi (a : AcNum) (e : AddrFields) : Body := dataOp 0o401 shapeImm a e

/-- SETZM (R404). -/
def bodySetzm (a : AcNum) (e : AddrFields) : Body := dataOp 0o402 shapeMem a e

/-- AND (R404). -/
def bodyAnd (a : AcNum) (e : AddrFields) : Body := dataOp 0o404 shapeBasic a e

/-- ANDI (R404). -/
def bodyAndi (a : AcNum) (e : AddrFields) : Body := dataOp 0o405 shapeImm a e

/-- ANDM (R404). -/
def bodyAndm (a : AcNum) (e : AddrFields) : Body := dataOp 0o406 shapeMem a e

/-- ANDB (R404). -/
def bodyAndb (a : AcNum) (e : AddrFields) : Body := dataOp 0o407 shapeBoth a e

/-- ANDCA (R404). -/
def bodyAndca (a : AcNum) (e : AddrFields) : Body := dataOp 0o410 shapeBasic a e

/-- ANDCAI (R404). -/
def bodyAndcai (a : AcNum) (e : AddrFields) : Body := dataOp 0o411 shapeImm a e

/-- ANDCAM (R404). -/
def bodyAndcam (a : AcNum) (e : AddrFields) : Body := dataOp 0o412 shapeMem a e

/-- ANDCAB (R404). -/
def bodyAndcab (a : AcNum) (e : AddrFields) : Body := dataOp 0o413 shapeBoth a e

/-- SETM (R404). -/
def bodySetm (a : AcNum) (e : AddrFields) : Body := dataOp 0o414 shapeBasic a e

/-- SETMM (R404). -/
def bodySetmm (a : AcNum) (e : AddrFields) : Body := dataOp 0o416 shapeMem a e

/-- SETMB (R404). -/
def bodySetmb (a : AcNum) (e : AddrFields) : Body := dataOp 0o417 shapeBoth a e

/-- ANDCM (R404). -/
def bodyAndcm (a : AcNum) (e : AddrFields) : Body := dataOp 0o420 shapeBasic a e

/-- ANDCMI (R404). -/
def bodyAndcmi (a : AcNum) (e : AddrFields) : Body := dataOp 0o421 shapeImm a e

/-- ANDCMM (R404). -/
def bodyAndcmm (a : AcNum) (e : AddrFields) : Body := dataOp 0o422 shapeMem a e

/-- ANDCMB (R404). -/
def bodyAndcmb (a : AcNum) (e : AddrFields) : Body := dataOp 0o423 shapeBoth a e

/-- SETA (R404). -/
def bodySeta (a : AcNum) (e : AddrFields) : Body := dataOp 0o424 shapeBasic a e

/-- SETAI (R404). -/
def bodySetai (a : AcNum) (e : AddrFields) : Body := dataOp 0o425 shapeImm a e

/-- SETAM (R404). -/
def bodySetam (a : AcNum) (e : AddrFields) : Body := dataOp 0o426 shapeMem a e

/-- SETAB (R404). -/
def bodySetab (a : AcNum) (e : AddrFields) : Body := dataOp 0o427 shapeBoth a e

/-- XOR (R404). -/
def bodyXor (a : AcNum) (e : AddrFields) : Body := dataOp 0o430 shapeBasic a e

/-- XORI (R404). -/
def bodyXori (a : AcNum) (e : AddrFields) : Body := dataOp 0o431 shapeImm a e

/-- XORM (R404). -/
def bodyXorm (a : AcNum) (e : AddrFields) : Body := dataOp 0o432 shapeMem a e

/-- XORB (R404). -/
def bodyXorb (a : AcNum) (e : AddrFields) : Body := dataOp 0o433 shapeBoth a e

/-- IOR (R404). -/
def bodyIor (a : AcNum) (e : AddrFields) : Body := dataOp 0o434 shapeBasic a e

/-- IORI (R404). -/
def bodyIori (a : AcNum) (e : AddrFields) : Body := dataOp 0o435 shapeImm a e

/-- IORM (R404). -/
def bodyIorm (a : AcNum) (e : AddrFields) : Body := dataOp 0o436 shapeMem a e

/-- IORB (R404). -/
def bodyIorb (a : AcNum) (e : AddrFields) : Body := dataOp 0o437 shapeBoth a e

/-- ANDCB (R404). -/
def bodyAndcb (a : AcNum) (e : AddrFields) : Body := dataOp 0o440 shapeBasic a e

/-- ANDCBI (R404). -/
def bodyAndcbi (a : AcNum) (e : AddrFields) : Body := dataOp 0o441 shapeImm a e

/-- ANDCBM (R404). -/
def bodyAndcbm (a : AcNum) (e : AddrFields) : Body := dataOp 0o442 shapeMem a e

/-- ANDCBB (R404). -/
def bodyAndcbb (a : AcNum) (e : AddrFields) : Body := dataOp 0o443 shapeBoth a e

/-- EQV (R404). -/
def bodyEqv (a : AcNum) (e : AddrFields) : Body := dataOp 0o444 shapeBasic a e

/-- EQVI (R404). -/
def bodyEqvi (a : AcNum) (e : AddrFields) : Body := dataOp 0o445 shapeImm a e

/-- EQVM (R404). -/
def bodyEqvm (a : AcNum) (e : AddrFields) : Body := dataOp 0o446 shapeMem a e

/-- EQVB (R404). -/
def bodyEqvb (a : AcNum) (e : AddrFields) : Body := dataOp 0o447 shapeBoth a e

/-- SETCA (R404). -/
def bodySetca (a : AcNum) (e : AddrFields) : Body := dataOp 0o450 shapeBasic a e

/-- SETCAI (R404). -/
def bodySetcai (a : AcNum) (e : AddrFields) : Body := dataOp 0o451 shapeImm a e

/-- SETCAM (R404). -/
def bodySetcam (a : AcNum) (e : AddrFields) : Body := dataOp 0o452 shapeMem a e

/-- SETCAB (R404). -/
def bodySetcab (a : AcNum) (e : AddrFields) : Body := dataOp 0o453 shapeBoth a e

/-- ORCA (R404). -/
def bodyOrca (a : AcNum) (e : AddrFields) : Body := dataOp 0o454 shapeBasic a e

/-- ORCAI (R404). -/
def bodyOrcai (a : AcNum) (e : AddrFields) : Body := dataOp 0o455 shapeImm a e

/-- ORCAM (R404). -/
def bodyOrcam (a : AcNum) (e : AddrFields) : Body := dataOp 0o456 shapeMem a e

/-- ORCAB (R404). -/
def bodyOrcab (a : AcNum) (e : AddrFields) : Body := dataOp 0o457 shapeBoth a e

/-- SETCM (R404). -/
def bodySetcm (a : AcNum) (e : AddrFields) : Body := dataOp 0o460 shapeBasic a e

/-- SETCMI (R404). -/
def bodySetcmi (a : AcNum) (e : AddrFields) : Body := dataOp 0o461 shapeImm a e

/-- SETCMM (R404). -/
def bodySetcmm (a : AcNum) (e : AddrFields) : Body := dataOp 0o462 shapeMem a e

/-- SETCMB (R404). -/
def bodySetcmb (a : AcNum) (e : AddrFields) : Body := dataOp 0o463 shapeBoth a e

/-- ORCM (R404). -/
def bodyOrcm (a : AcNum) (e : AddrFields) : Body := dataOp 0o464 shapeBasic a e

/-- ORCMI (R404). -/
def bodyOrcmi (a : AcNum) (e : AddrFields) : Body := dataOp 0o465 shapeImm a e

/-- ORCMM (R404). -/
def bodyOrcmm (a : AcNum) (e : AddrFields) : Body := dataOp 0o466 shapeMem a e

/-- ORCMB (R404). -/
def bodyOrcmb (a : AcNum) (e : AddrFields) : Body := dataOp 0o467 shapeBoth a e

/-- ORCB (R404). -/
def bodyOrcb (a : AcNum) (e : AddrFields) : Body := dataOp 0o470 shapeBasic a e

/-- ORCBI (R404). -/
def bodyOrcbi (a : AcNum) (e : AddrFields) : Body := dataOp 0o471 shapeImm a e

/-- ORCBM (R404). -/
def bodyOrcbm (a : AcNum) (e : AddrFields) : Body := dataOp 0o472 shapeMem a e

/-- ORCBB (R404). -/
def bodyOrcbb (a : AcNum) (e : AddrFields) : Body := dataOp 0o473 shapeBoth a e

/-- SETO (R404). -/
def bodySeto (a : AcNum) (e : AddrFields) : Body := dataOp 0o474 shapeBasic a e

/-- SETOI (R404). -/
def bodySetoi (a : AcNum) (e : AddrFields) : Body := dataOp 0o475 shapeImm a e

/-- SETOM (R404). -/
def bodySetom (a : AcNum) (e : AddrFields) : Body := dataOp 0o476 shapeMem a e

/-- SETOB (R404). -/
def bodySetob (a : AcNum) (e : AddrFields) : Body := dataOp 0o477 shapeBoth a e

/-- SETZ as a step. -/
def execSetz (a : AcNum) (e : AddrFields) (s : State) : Host.Outcome State Fault Refusal :=
  runTop (instrWord 0o400 a e) (bodySetz a e) s

/-- SETZI as a step. -/
def execSetzi (a : AcNum) (e : AddrFields) (s : State) : Host.Outcome State Fault Refusal :=
  runTop (instrWord 0o401 a e) (bodySetzi a e) s

/-- SETZM as a step. -/
def execSetzm (a : AcNum) (e : AddrFields) (s : State) : Host.Outcome State Fault Refusal :=
  runTop (instrWord 0o402 a e) (bodySetzm a e) s

/-- AND as a step. -/
def execAnd (a : AcNum) (e : AddrFields) (s : State) : Host.Outcome State Fault Refusal :=
  runTop (instrWord 0o404 a e) (bodyAnd a e) s

/-- ANDI as a step. -/
def execAndi (a : AcNum) (e : AddrFields) (s : State) : Host.Outcome State Fault Refusal :=
  runTop (instrWord 0o405 a e) (bodyAndi a e) s

/-- ANDM as a step. -/
def execAndm (a : AcNum) (e : AddrFields) (s : State) : Host.Outcome State Fault Refusal :=
  runTop (instrWord 0o406 a e) (bodyAndm a e) s

/-- ANDB as a step. -/
def execAndb (a : AcNum) (e : AddrFields) (s : State) : Host.Outcome State Fault Refusal :=
  runTop (instrWord 0o407 a e) (bodyAndb a e) s

/-- ANDCA as a step. -/
def execAndca (a : AcNum) (e : AddrFields) (s : State) : Host.Outcome State Fault Refusal :=
  runTop (instrWord 0o410 a e) (bodyAndca a e) s

/-- ANDCAI as a step. -/
def execAndcai (a : AcNum) (e : AddrFields) (s : State) : Host.Outcome State Fault Refusal :=
  runTop (instrWord 0o411 a e) (bodyAndcai a e) s

/-- ANDCAM as a step. -/
def execAndcam (a : AcNum) (e : AddrFields) (s : State) : Host.Outcome State Fault Refusal :=
  runTop (instrWord 0o412 a e) (bodyAndcam a e) s

/-- ANDCAB as a step. -/
def execAndcab (a : AcNum) (e : AddrFields) (s : State) : Host.Outcome State Fault Refusal :=
  runTop (instrWord 0o413 a e) (bodyAndcab a e) s

/-- SETM as a step. -/
def execSetm (a : AcNum) (e : AddrFields) (s : State) : Host.Outcome State Fault Refusal :=
  runTop (instrWord 0o414 a e) (bodySetm a e) s

/-- SETMM as a step. -/
def execSetmm (a : AcNum) (e : AddrFields) (s : State) : Host.Outcome State Fault Refusal :=
  runTop (instrWord 0o416 a e) (bodySetmm a e) s

/-- SETMB as a step. -/
def execSetmb (a : AcNum) (e : AddrFields) (s : State) : Host.Outcome State Fault Refusal :=
  runTop (instrWord 0o417 a e) (bodySetmb a e) s

/-- ANDCM as a step. -/
def execAndcm (a : AcNum) (e : AddrFields) (s : State) : Host.Outcome State Fault Refusal :=
  runTop (instrWord 0o420 a e) (bodyAndcm a e) s

/-- ANDCMI as a step. -/
def execAndcmi (a : AcNum) (e : AddrFields) (s : State) : Host.Outcome State Fault Refusal :=
  runTop (instrWord 0o421 a e) (bodyAndcmi a e) s

/-- ANDCMM as a step. -/
def execAndcmm (a : AcNum) (e : AddrFields) (s : State) : Host.Outcome State Fault Refusal :=
  runTop (instrWord 0o422 a e) (bodyAndcmm a e) s

/-- ANDCMB as a step. -/
def execAndcmb (a : AcNum) (e : AddrFields) (s : State) : Host.Outcome State Fault Refusal :=
  runTop (instrWord 0o423 a e) (bodyAndcmb a e) s

/-- SETA as a step. -/
def execSeta (a : AcNum) (e : AddrFields) (s : State) : Host.Outcome State Fault Refusal :=
  runTop (instrWord 0o424 a e) (bodySeta a e) s

/-- SETAI as a step. -/
def execSetai (a : AcNum) (e : AddrFields) (s : State) : Host.Outcome State Fault Refusal :=
  runTop (instrWord 0o425 a e) (bodySetai a e) s

/-- SETAM as a step. -/
def execSetam (a : AcNum) (e : AddrFields) (s : State) : Host.Outcome State Fault Refusal :=
  runTop (instrWord 0o426 a e) (bodySetam a e) s

/-- SETAB as a step. -/
def execSetab (a : AcNum) (e : AddrFields) (s : State) : Host.Outcome State Fault Refusal :=
  runTop (instrWord 0o427 a e) (bodySetab a e) s

/-- XOR as a step. -/
def execXor (a : AcNum) (e : AddrFields) (s : State) : Host.Outcome State Fault Refusal :=
  runTop (instrWord 0o430 a e) (bodyXor a e) s

/-- XORI as a step. -/
def execXori (a : AcNum) (e : AddrFields) (s : State) : Host.Outcome State Fault Refusal :=
  runTop (instrWord 0o431 a e) (bodyXori a e) s

/-- XORM as a step. -/
def execXorm (a : AcNum) (e : AddrFields) (s : State) : Host.Outcome State Fault Refusal :=
  runTop (instrWord 0o432 a e) (bodyXorm a e) s

/-- XORB as a step. -/
def execXorb (a : AcNum) (e : AddrFields) (s : State) : Host.Outcome State Fault Refusal :=
  runTop (instrWord 0o433 a e) (bodyXorb a e) s

/-- IOR as a step. -/
def execIor (a : AcNum) (e : AddrFields) (s : State) : Host.Outcome State Fault Refusal :=
  runTop (instrWord 0o434 a e) (bodyIor a e) s

/-- IORI as a step. -/
def execIori (a : AcNum) (e : AddrFields) (s : State) : Host.Outcome State Fault Refusal :=
  runTop (instrWord 0o435 a e) (bodyIori a e) s

/-- IORM as a step. -/
def execIorm (a : AcNum) (e : AddrFields) (s : State) : Host.Outcome State Fault Refusal :=
  runTop (instrWord 0o436 a e) (bodyIorm a e) s

/-- IORB as a step. -/
def execIorb (a : AcNum) (e : AddrFields) (s : State) : Host.Outcome State Fault Refusal :=
  runTop (instrWord 0o437 a e) (bodyIorb a e) s

/-- ANDCB as a step. -/
def execAndcb (a : AcNum) (e : AddrFields) (s : State) : Host.Outcome State Fault Refusal :=
  runTop (instrWord 0o440 a e) (bodyAndcb a e) s

/-- ANDCBI as a step. -/
def execAndcbi (a : AcNum) (e : AddrFields) (s : State) : Host.Outcome State Fault Refusal :=
  runTop (instrWord 0o441 a e) (bodyAndcbi a e) s

/-- ANDCBM as a step. -/
def execAndcbm (a : AcNum) (e : AddrFields) (s : State) : Host.Outcome State Fault Refusal :=
  runTop (instrWord 0o442 a e) (bodyAndcbm a e) s

/-- ANDCBB as a step. -/
def execAndcbb (a : AcNum) (e : AddrFields) (s : State) : Host.Outcome State Fault Refusal :=
  runTop (instrWord 0o443 a e) (bodyAndcbb a e) s

/-- EQV as a step. -/
def execEqv (a : AcNum) (e : AddrFields) (s : State) : Host.Outcome State Fault Refusal :=
  runTop (instrWord 0o444 a e) (bodyEqv a e) s

/-- EQVI as a step. -/
def execEqvi (a : AcNum) (e : AddrFields) (s : State) : Host.Outcome State Fault Refusal :=
  runTop (instrWord 0o445 a e) (bodyEqvi a e) s

/-- EQVM as a step. -/
def execEqvm (a : AcNum) (e : AddrFields) (s : State) : Host.Outcome State Fault Refusal :=
  runTop (instrWord 0o446 a e) (bodyEqvm a e) s

/-- EQVB as a step. -/
def execEqvb (a : AcNum) (e : AddrFields) (s : State) : Host.Outcome State Fault Refusal :=
  runTop (instrWord 0o447 a e) (bodyEqvb a e) s

/-- SETCA as a step. -/
def execSetca (a : AcNum) (e : AddrFields) (s : State) : Host.Outcome State Fault Refusal :=
  runTop (instrWord 0o450 a e) (bodySetca a e) s

/-- SETCAI as a step. -/
def execSetcai (a : AcNum) (e : AddrFields) (s : State) : Host.Outcome State Fault Refusal :=
  runTop (instrWord 0o451 a e) (bodySetcai a e) s

/-- SETCAM as a step. -/
def execSetcam (a : AcNum) (e : AddrFields) (s : State) : Host.Outcome State Fault Refusal :=
  runTop (instrWord 0o452 a e) (bodySetcam a e) s

/-- SETCAB as a step. -/
def execSetcab (a : AcNum) (e : AddrFields) (s : State) : Host.Outcome State Fault Refusal :=
  runTop (instrWord 0o453 a e) (bodySetcab a e) s

/-- ORCA as a step. -/
def execOrca (a : AcNum) (e : AddrFields) (s : State) : Host.Outcome State Fault Refusal :=
  runTop (instrWord 0o454 a e) (bodyOrca a e) s

/-- ORCAI as a step. -/
def execOrcai (a : AcNum) (e : AddrFields) (s : State) : Host.Outcome State Fault Refusal :=
  runTop (instrWord 0o455 a e) (bodyOrcai a e) s

/-- ORCAM as a step. -/
def execOrcam (a : AcNum) (e : AddrFields) (s : State) : Host.Outcome State Fault Refusal :=
  runTop (instrWord 0o456 a e) (bodyOrcam a e) s

/-- ORCAB as a step. -/
def execOrcab (a : AcNum) (e : AddrFields) (s : State) : Host.Outcome State Fault Refusal :=
  runTop (instrWord 0o457 a e) (bodyOrcab a e) s

/-- SETCM as a step. -/
def execSetcm (a : AcNum) (e : AddrFields) (s : State) : Host.Outcome State Fault Refusal :=
  runTop (instrWord 0o460 a e) (bodySetcm a e) s

/-- SETCMI as a step. -/
def execSetcmi (a : AcNum) (e : AddrFields) (s : State) : Host.Outcome State Fault Refusal :=
  runTop (instrWord 0o461 a e) (bodySetcmi a e) s

/-- SETCMM as a step. -/
def execSetcmm (a : AcNum) (e : AddrFields) (s : State) : Host.Outcome State Fault Refusal :=
  runTop (instrWord 0o462 a e) (bodySetcmm a e) s

/-- SETCMB as a step. -/
def execSetcmb (a : AcNum) (e : AddrFields) (s : State) : Host.Outcome State Fault Refusal :=
  runTop (instrWord 0o463 a e) (bodySetcmb a e) s

/-- ORCM as a step. -/
def execOrcm (a : AcNum) (e : AddrFields) (s : State) : Host.Outcome State Fault Refusal :=
  runTop (instrWord 0o464 a e) (bodyOrcm a e) s

/-- ORCMI as a step. -/
def execOrcmi (a : AcNum) (e : AddrFields) (s : State) : Host.Outcome State Fault Refusal :=
  runTop (instrWord 0o465 a e) (bodyOrcmi a e) s

/-- ORCMM as a step. -/
def execOrcmm (a : AcNum) (e : AddrFields) (s : State) : Host.Outcome State Fault Refusal :=
  runTop (instrWord 0o466 a e) (bodyOrcmm a e) s

/-- ORCMB as a step. -/
def execOrcmb (a : AcNum) (e : AddrFields) (s : State) : Host.Outcome State Fault Refusal :=
  runTop (instrWord 0o467 a e) (bodyOrcmb a e) s

/-- ORCB as a step. -/
def execOrcb (a : AcNum) (e : AddrFields) (s : State) : Host.Outcome State Fault Refusal :=
  runTop (instrWord 0o470 a e) (bodyOrcb a e) s

/-- ORCBI as a step. -/
def execOrcbi (a : AcNum) (e : AddrFields) (s : State) : Host.Outcome State Fault Refusal :=
  runTop (instrWord 0o471 a e) (bodyOrcbi a e) s

/-- ORCBM as a step. -/
def execOrcbm (a : AcNum) (e : AddrFields) (s : State) : Host.Outcome State Fault Refusal :=
  runTop (instrWord 0o472 a e) (bodyOrcbm a e) s

/-- ORCBB as a step. -/
def execOrcbb (a : AcNum) (e : AddrFields) (s : State) : Host.Outcome State Fault Refusal :=
  runTop (instrWord 0o473 a e) (bodyOrcbb a e) s

/-- SETO as a step. -/
def execSeto (a : AcNum) (e : AddrFields) (s : State) : Host.Outcome State Fault Refusal :=
  runTop (instrWord 0o474 a e) (bodySeto a e) s

/-- SETOI as a step. -/
def execSetoi (a : AcNum) (e : AddrFields) (s : State) : Host.Outcome State Fault Refusal :=
  runTop (instrWord 0o475 a e) (bodySetoi a e) s

/-- SETOM as a step. -/
def execSetom (a : AcNum) (e : AddrFields) (s : State) : Host.Outcome State Fault Refusal :=
  runTop (instrWord 0o476 a e) (bodySetom a e) s

/-- SETOB as a step. -/
def execSetob (a : AcNum) (e : AddrFields) (s : State) : Host.Outcome State Fault Refusal :=
  runTop (instrWord 0o477 a e) (bodySetob a e) s

end Sys2Proof.Machine
end

