-- ==== Sys2Proof/Machine/Byte.lean ====
section
/-! DEFINITION. The byte class (spec/41_byte.md R200 to R213). -/

namespace Sys2Proof.Machine

/-- A byte pointer as fetched: E, format, first word, second word (0 where the format has none). -/
structure FetchedPtr where
  /-- the reference the first word was fetched through -/
  ea : EA
  /-- the format -/
  kind : BpKind
  /-- first word -/
  w1 : Word
  /-- second word -/
  w2 : Word

/-- Steps 1 to 3 of R200: E, the pointer words, the format (R201, R202, R203). -/
def fetchPointer (e : AddrFields) (f : Frame) (m : Mach) : Run FetchedPtr := do
  let ea ← instrEa .byte e f m
  let w1 ← m.read ea f.dataCtx
  let kind := decodeBP w1 (secOf ea.addr)
  if kind = .twoGlobal then do
    let e2 ← m.incRef ea
    let w2 ← m.read e2 f.dataCtx
    pure ⟨ea, kind, w1, w2⟩
  else pure ⟨ea, kind, w1, 0⟩

/-- Step 4 of R200: the address of the byte's word (R204). -/
def byteAddress (p : FetchedPtr) (f : Frame) (m : Mach) : Run EA :=
  bpAddress m p.kind p.w1 p.w2 (if p.kind = .twoGlobal then secOf (inc p.ea).addr else secOf p.ea.addr) (inc p.ea)
    f.dataCtx f.bits.e2 f.bits.d2

/-- The context of the byte's word (R205). -/
def Frame.byteCtx (f : Frame) : Ctx := ctxOf f.bits.d2

/-- IncBP and the write-back of R208. -/
def stepPointer (p : FetchedPtr) (f : Frame) (m : Mach) : Run (FetchedPtr × Mach) := do
  let (w1, w2) ← incBP m.st.cfg p.kind p.w1 p.w2
  let m ← m.write p.ea f.dataCtx w1
  let m ← if p.kind = .twoGlobal ∧ w2 ≠ p.w2 then m.write (inc p.ea) f.dataCtx w2 else pure m
  pure ({ p with w1 := w1, w2 := w2 }, m)

/-- Steps 4 and 5 of R206: the byte goes to AC A. -/
def loadByte (a : AcNum) (p : FetchedPtr) (f : Frame) (m : Mach) : Run Mach := do
  let (pos, size) ← bpFields m.st.cfg p.kind p.w1
  let be ← byteAddress p f m
  let w ← m.read be f.byteCtx
  pure (m.setX a (byteOf pos size w))

/-- Steps 4 and 5 of R207: the low bits of AC A go to the byte. -/
def storeByte (a : AcNum) (p : FetchedPtr) (f : Frame) (m : Mach) : Run Mach := do
  let (pos, size) ← bpFields m.st.cfg p.kind p.w1
  let be ← byteAddress p f m
  let w ← m.read be f.byteCtx
  m.write be f.byteCtx (depositByte pos size w (m.x a))

/-- LDB (R206). -/
def bodyLdb (a : AcNum) (e : AddrFields) : Body := fun f m => do
  let p ← fetchPointer e f m
  let m ← loadByte a p f m
  pure (m.advance 1)

/-- DPB (R207). -/
def bodyDpb (a : AcNum) (e : AddrFields) : Body := fun f m => do
  let p ← fetchPointer e f m
  let m ← storeByte a p f m
  pure (m.advance 1)

/-- ILDB (R208). -/
def bodyIldb (a : AcNum) (e : AddrFields) : Body := fun f m => do
  let p ← fetchPointer e f m
  let (p, m) ← stepPointer p f m
  let m ← loadByte a p f m
  pure (m.advance 1)

/-- IDPB (R209). -/
def bodyIdpb (a : AcNum) (e : AddrFields) : Body := fun f m => do
  let p ← fetchPointer e f m
  let (p, m) ← stepPointer p f m
  let m ← storeByte a p f m
  pure (m.advance 1)

/-- ADJBP, the same opcode with a non-zero AC field (R210): the pointer is fetched and decoded (code 77 refused, 30_encoding.md R109;
log 10), and its EA-calc performed (40_ea_calc.md R150; log 35), whose address the memo uses for nothing further; the result in A
and A+1 is a free value of the operands (log 35). No flag is written. -/
def adjbp (a : AcNum) (e : AddrFields) : Body := fun f m => do
  let p ← fetchPointer e f m
  let _ ← bpFields m.st.cfg p.kind p.w1
  let _ ← byteAddress p f m
  pure ((setResults 0o133 [m.x a, m.x (a + 1), p.w1, p.w2] a [0, 1] m).advance 1)

/-- IBP (R210). -/
def bodyIbp (a : AcNum) (e : AddrFields) : Body := fun f m =>
  if a = 0 then do
    let p ← fetchPointer e f m
    let (_, m) ← stepPointer p f m
    pure (m.advance 1)
  else adjbp a e f m

/-- IBP as a step. -/
def execIbp (a : AcNum) (e : AddrFields) (s : State) : Host.Outcome State Fault Refusal :=
  runTop (instrWord 0o133 a e) (bodyIbp a e) s

/-- ILDB as a step. -/
def execIldb (a : AcNum) (e : AddrFields) (s : State) : Host.Outcome State Fault Refusal :=
  runTop (instrWord 0o134 a e) (bodyIldb a e) s

/-- LDB as a step. -/
def execLdb (a : AcNum) (e : AddrFields) (s : State) : Host.Outcome State Fault Refusal :=
  runTop (instrWord 0o135 a e) (bodyLdb a e) s

/-- IDPB as a step. -/
def execIdpb (a : AcNum) (e : AddrFields) (s : State) : Host.Outcome State Fault Refusal :=
  runTop (instrWord 0o136 a e) (bodyIdpb a e) s

/-- DPB as a step. -/
def execDpb (a : AcNum) (e : AddrFields) (s : State) : Host.Outcome State Fault Refusal :=
  runTop (instrWord 0o137 a e) (bodyDpb a e) s

end Sys2Proof.Machine
end

