-- ==== Sys2Proof/Machine/CondJump.lean ====
section
/-! DEFINITION. The conditional jumps (spec/43_jumps.md R283): free conditions and results (log 6, log 42). -/

namespace Sys2Proof.Machine

/-- JFFO (R283). -/
def bodyJffo (a : AcNum) (e : AddrFields) : Body := jumpOp 0o243 [1] a e

/-- AOBJP (R283). -/
def bodyAobjp (a : AcNum) (e : AddrFields) : Body := jumpOp 0o252 [0] a e

/-- AOBJN (R283). -/
def bodyAobjn (a : AcNum) (e : AddrFields) : Body := jumpOp 0o253 [0] a e

/-- JFCL (R283). -/
def bodyJfcl (a : AcNum) (e : AddrFields) : Body := flagJumpOp 0o255 a e

/-- JUMP (R283). -/
def bodyJump (a : AcNum) (e : AddrFields) : Body := jumpOp 0o320 [] a e

/-- JUMPL (R283). -/
def bodyJumpl (a : AcNum) (e : AddrFields) : Body := jumpOp 0o321 [] a e

/-- JUMPE (R283). -/
def bodyJumpe (a : AcNum) (e : AddrFields) : Body := jumpOp 0o322 [] a e

/-- JUMPLE (R283). -/
def bodyJumple (a : AcNum) (e : AddrFields) : Body := jumpOp 0o323 [] a e

/-- JUMPA (R283). -/
def bodyJumpa (a : AcNum) (e : AddrFields) : Body := jumpOp 0o324 [] a e

/-- JUMPGE (R283). -/
def bodyJumpge (a : AcNum) (e : AddrFields) : Body := jumpOp 0o325 [] a e

/-- JUMPN (R283). -/
def bodyJumpn (a : AcNum) (e : AddrFields) : Body := jumpOp 0o326 [] a e

/-- JUMPG (R283). -/
def bodyJumpg (a : AcNum) (e : AddrFields) : Body := jumpOp 0o327 [] a e

/-- AOJ (R283). -/
def bodyAoj (a : AcNum) (e : AddrFields) : Body := jumpOp 0o340 [0] a e

/-- AOJL (R283). -/
def bodyAojl (a : AcNum) (e : AddrFields) : Body := jumpOp 0o341 [0] a e

/-- AOJE (R283). -/
def bodyAoje (a : AcNum) (e : AddrFields) : Body := jumpOp 0o342 [0] a e

/-- AOJLE (R283). -/
def bodyAojle (a : AcNum) (e : AddrFields) : Body := jumpOp 0o343 [0] a e

/-- AOJA (R283). -/
def bodyAoja (a : AcNum) (e : AddrFields) : Body := jumpOp 0o344 [0] a e

/-- AOJGE (R283). -/
def bodyAojge (a : AcNum) (e : AddrFields) : Body := jumpOp 0o345 [0] a e

/-- AOJN (R283). -/
def bodyAojn (a : AcNum) (e : AddrFields) : Body := jumpOp 0o346 [0] a e

/-- AOJG (R283). -/
def bodyAojg (a : AcNum) (e : AddrFields) : Body := jumpOp 0o347 [0] a e

/-- SOJ (R283). -/
def bodySoj (a : AcNum) (e : AddrFields) : Body := jumpOp 0o360 [0] a e

/-- SOJL (R283). -/
def bodySojl (a : AcNum) (e : AddrFields) : Body := jumpOp 0o361 [0] a e

/-- SOJE (R283). -/
def bodySoje (a : AcNum) (e : AddrFields) : Body := jumpOp 0o362 [0] a e

/-- SOJLE (R283). -/
def bodySojle (a : AcNum) (e : AddrFields) : Body := jumpOp 0o363 [0] a e

/-- SOJA (R283). -/
def bodySoja (a : AcNum) (e : AddrFields) : Body := jumpOp 0o364 [0] a e

/-- SOJGE (R283). -/
def bodySojge (a : AcNum) (e : AddrFields) : Body := jumpOp 0o365 [0] a e

/-- SOJN (R283). -/
def bodySojn (a : AcNum) (e : AddrFields) : Body := jumpOp 0o366 [0] a e

/-- SOJG (R283). -/
def bodySojg (a : AcNum) (e : AddrFields) : Body := jumpOp 0o367 [0] a e

/-- JFFO as a step. -/
def execJffo (a : AcNum) (e : AddrFields) (s : State) : Host.Outcome State Fault Refusal :=
  runTop (instrWord 0o243 a e) (bodyJffo a e) s

/-- AOBJP as a step. -/
def execAobjp (a : AcNum) (e : AddrFields) (s : State) : Host.Outcome State Fault Refusal :=
  runTop (instrWord 0o252 a e) (bodyAobjp a e) s

/-- AOBJN as a step. -/
def execAobjn (a : AcNum) (e : AddrFields) (s : State) : Host.Outcome State Fault Refusal :=
  runTop (instrWord 0o253 a e) (bodyAobjn a e) s

/-- JFCL as a step. -/
def execJfcl (a : AcNum) (e : AddrFields) (s : State) : Host.Outcome State Fault Refusal :=
  runTop (instrWord 0o255 a e) (bodyJfcl a e) s

/-- JUMP as a step. -/
def execJump (a : AcNum) (e : AddrFields) (s : State) : Host.Outcome State Fault Refusal :=
  runTop (instrWord 0o320 a e) (bodyJump a e) s

/-- JUMPL as a step. -/
def execJumpl (a : AcNum) (e : AddrFields) (s : State) : Host.Outcome State Fault Refusal :=
  runTop (instrWord 0o321 a e) (bodyJumpl a e) s

/-- JUMPE as a step. -/
def execJumpe (a : AcNum) (e : AddrFields) (s : State) : Host.Outcome State Fault Refusal :=
  runTop (instrWord 0o322 a e) (bodyJumpe a e) s

/-- JUMPLE as a step. -/
def execJumple (a : AcNum) (e : AddrFields) (s : State) : Host.Outcome State Fault Refusal :=
  runTop (instrWord 0o323 a e) (bodyJumple a e) s

/-- JUMPA as a step. -/
def execJumpa (a : AcNum) (e : AddrFields) (s : State) : Host.Outcome State Fault Refusal :=
  runTop (instrWord 0o324 a e) (bodyJumpa a e) s

/-- JUMPGE as a step. -/
def execJumpge (a : AcNum) (e : AddrFields) (s : State) : Host.Outcome State Fault Refusal :=
  runTop (instrWord 0o325 a e) (bodyJumpge a e) s

/-- JUMPN as a step. -/
def execJumpn (a : AcNum) (e : AddrFields) (s : State) : Host.Outcome State Fault Refusal :=
  runTop (instrWord 0o326 a e) (bodyJumpn a e) s

/-- JUMPG as a step. -/
def execJumpg (a : AcNum) (e : AddrFields) (s : State) : Host.Outcome State Fault Refusal :=
  runTop (instrWord 0o327 a e) (bodyJumpg a e) s

/-- AOJ as a step. -/
def execAoj (a : AcNum) (e : AddrFields) (s : State) : Host.Outcome State Fault Refusal :=
  runTop (instrWord 0o340 a e) (bodyAoj a e) s

/-- AOJL as a step. -/
def execAojl (a : AcNum) (e : AddrFields) (s : State) : Host.Outcome State Fault Refusal :=
  runTop (instrWord 0o341 a e) (bodyAojl a e) s

/-- AOJE as a step. -/
def execAoje (a : AcNum) (e : AddrFields) (s : State) : Host.Outcome State Fault Refusal :=
  runTop (instrWord 0o342 a e) (bodyAoje a e) s

/-- AOJLE as a step. -/
def execAojle (a : AcNum) (e : AddrFields) (s : State) : Host.Outcome State Fault Refusal :=
  runTop (instrWord 0o343 a e) (bodyAojle a e) s

/-- AOJA as a step. -/
def execAoja (a : AcNum) (e : AddrFields) (s : State) : Host.Outcome State Fault Refusal :=
  runTop (instrWord 0o344 a e) (bodyAoja a e) s

/-- AOJGE as a step. -/
def execAojge (a : AcNum) (e : AddrFields) (s : State) : Host.Outcome State Fault Refusal :=
  runTop (instrWord 0o345 a e) (bodyAojge a e) s

/-- AOJN as a step. -/
def execAojn (a : AcNum) (e : AddrFields) (s : State) : Host.Outcome State Fault Refusal :=
  runTop (instrWord 0o346 a e) (bodyAojn a e) s

/-- AOJG as a step. -/
def execAojg (a : AcNum) (e : AddrFields) (s : State) : Host.Outcome State Fault Refusal :=
  runTop (instrWord 0o347 a e) (bodyAojg a e) s

/-- SOJ as a step. -/
def execSoj (a : AcNum) (e : AddrFields) (s : State) : Host.Outcome State Fault Refusal :=
  runTop (instrWord 0o360 a e) (bodySoj a e) s

/-- SOJL as a step. -/
def execSojl (a : AcNum) (e : AddrFields) (s : State) : Host.Outcome State Fault Refusal :=
  runTop (instrWord 0o361 a e) (bodySojl a e) s

/-- SOJE as a step. -/
def execSoje (a : AcNum) (e : AddrFields) (s : State) : Host.Outcome State Fault Refusal :=
  runTop (instrWord 0o362 a e) (bodySoje a e) s

/-- SOJLE as a step. -/
def execSojle (a : AcNum) (e : AddrFields) (s : State) : Host.Outcome State Fault Refusal :=
  runTop (instrWord 0o363 a e) (bodySojle a e) s

/-- SOJA as a step. -/
def execSoja (a : AcNum) (e : AddrFields) (s : State) : Host.Outcome State Fault Refusal :=
  runTop (instrWord 0o364 a e) (bodySoja a e) s

/-- SOJGE as a step. -/
def execSojge (a : AcNum) (e : AddrFields) (s : State) : Host.Outcome State Fault Refusal :=
  runTop (instrWord 0o365 a e) (bodySojge a e) s

/-- SOJN as a step. -/
def execSojn (a : AcNum) (e : AddrFields) (s : State) : Host.Outcome State Fault Refusal :=
  runTop (instrWord 0o366 a e) (bodySojn a e) s

/-- SOJG as a step. -/
def execSojg (a : AcNum) (e : AddrFields) (s : State) : Host.Outcome State Fault Refusal :=
  runTop (instrWord 0o367 a e) (bodySojg a e) s

end Sys2Proof.Machine
end

