-- ==== Sys2Proof/Machine/Block.lean ====
section
/-! DEFINITION. BLT and XBLT (spec/46_blt_xblt.md R360 to R376). -/

namespace Sys2Proof.Machine

/-- The words of a BLT: `n` of them, each read before it is written, ascending in section (R363, R365). -/
def bltLoop (cs cd : Ctx) : Nat → EA → EA → Mach → Run Mach
  | 0, _, _, m => .ok m
  | n + 1, src, dst, m => do
    let v ← m.read src cs
    let m ← m.write dst cd v
    bltLoop cs cd n (incLocal src) (incLocal dst) m

/-- How many words a BLT moves from in-section address `d` to last address `l` (R363, R366): up to `l`; where `d` is above `l` the memo's
words ("until the destination address is equal to EA", round the section) or one word, as `round` says (log 24), if that case is not
refused (log 47). -/
def bltCount (d l : Half) (round : Bool) : Nat :=
  if d ≤ l ∨ round = true then (l - d).toNat + 1 else 1

/-- BLT (R361 to R368): refused where the destination starts above E (R366); AC A afterwards is a free value, but for the refusal where
it was the last word written, the one at E (R367; log 23, log 24, log 47). -/
def bodyBlt (a : AcNum) (e : AddrFields) : Body := fun f m => do
  let ea ← instrEa .blt e f m
  let ac := m.x a
  m.ruling ((offOf ea.addr).ult (rh ac)) .bltAboveE
  let n := bltCount (rh ac) (offOf ea.addr) (bitAt m.fresh 35)
  let m ← bltLoop (ctxOf f.bits.d2) f.dataCtx n ⟨mkAddr (secOf ea.addr) (lh ac), ea.flag⟩
    ⟨mkAddr (secOf ea.addr) (rh ac), ea.flag⟩ m.drawn
  m.ruling (m.writes ea f.dataCtx (.ac m.st.cab a)) .bltOwnAc
  pure ((m.setFree a).advance 1)

/-- A PXCT of an extended instruction admits 1, 2 and 3 for MOVSLJ and XBLT (48_xct_pxct.md R444) and nothing for the others (R445). -/
def Frame.guardExt (f : Frame) (listed : Bool) : Run Unit :=
  match f.px with
  | none => .ok ()
  | some p =>
    if listed = false then refuse .pxctInapplicable
    else if !p.e1 && !p.d1 && (p.e2 || p.d2) then .ok () else refuse .pxctIllegalBits

/-- Whether a place is one of ACs A, A+1, A+2 of the current block (R370). -/
def ownAc (m : Mach) (a : AcNum) (l : Loc) : Bool :=
  l == .ac m.st.cab a || l == .ac m.st.cab (a + 1) || l == .ac m.st.cab (a + 2)

/-- The words of an XBLT (R370): `n` of them, ascending globally "mod 2^30". A word read from the instruction's own ACs is a free value. A
write of one of them and a step past 7777,,777777 are refused, or (log 47) go on: the Bool says whether one of them was written (log
25). -/
def xbltLoop (a : AcNum) (cs cd : Ctx) : Nat → EA → EA → Bool → Mach → Run (Bool × Mach)
  | 0, _, _, own, m => .ok (own, m)
  | n + 1, src, dst, own, m => do
    let ls ← m.locate src cs .read
    let v := if ownAc m a ls then m.fresh else m.st.get ls
    let m := if ownAc m a ls then m.drawn else m
    let ld ← m.locate dst cd .write
    m.ruling (ownAc m a ld) .xbltOwnAcs
    m.ruling (n != 0 && (atTop src || atTop dst)) .addressTop
    xbltLoop a cs cd n (incGlobal src) (incGlobal dst) (own || ownAc m a ld) (m.put ld v)

/-- XBLT (R369 to R372). -/
def bodyXblt (a : AcNum) (_e0 : EA) (_z : BitVec 4) (_e : AddrFields) : Body := fun f m => do
  f.guardExt true
  let n := m.x a
  let src := addrOf (m.x (a + 1))
  let dst := addrOf (m.x (a + 2))
  if bitAt n 0 then refuse .xbltNegativeCount
  else
    let (own, m) ← xbltLoop a (ctxOf f.bits.e2) (ctxOf f.bits.d2) n.toNat ⟨src, .glob⟩ ⟨dst, .glob⟩ false m
    let m := if own then ((m.setFree (a + 1)).setFree (a + 2)).setFree a
      else ((m.setX (a + 1) (wordOfAddr (src + addrOf n))).setX (a + 2) (wordOfAddr (dst + addrOf n))).setX a 0
    pure (m.advance 1)

/-- BLT as a step. -/
def execBlt (a : AcNum) (e : AddrFields) (s : State) : Host.Outcome State Fault Refusal :=
  runTop (instrWord 0o251 a e) (bodyBlt a e) s

/-- XBLT as a step. -/
def execXblt (a : AcNum) (e0 : EA) (z : BitVec 4) (e : AddrFields) (s : State) : Host.Outcome State Fault Refusal :=
  runTop (instrWord 0o123 a ⟨false, 0, 0⟩) (bodyXblt a e0 z e) s

end Sys2Proof.Machine
end

