-- ==== Sys2Proof/Machine/Strings.lean ====
section
/-! DEFINITION. The string instructions of EXTEND (spec/42_extend.md R231 to R248). `a` is the EXTEND's AC field, `e0` its effective
address E0, `e` the address part of the extended opcode word. MOVSLJ follows the sketch of R239 (log 26). For the others the memo
settles where every word is found and nothing of the data: they run with the references the rules give, and every datum is a
free value (log 27, log 28). -/

namespace Sys2Proof.Machine

/-! ## Pointers in the AC block (R234 to R236) -/

/-- The section the format test of a string pointer uses (R235, R243). -/
def strSec (m : Mach) (ctl : Bool) : Sec := if ctl then m.st.pcs else m.st.pcSec

/-- The format of the pointer in AC `k` (R235). -/
def strKind (m : Mach) (k : AcNum) (ctl : Bool) : BpKind := decodeBP (m.x k) (strSec m ctl)

/-- `StrBP` (R236): the address of the pointer's byte; the pointer stands in current-context ACs. -/
def strBP (m : Mach) (k : AcNum) (ctl : Bool) : Run EA :=
  bpAddress m (strKind m k ctl) (m.x k) (m.x (k + 1)) m.st.pcSec ⟨mkAddr m.st.pcSec ((k + 1).setWidth 18), .loc⟩
    .cur ctl ctl

/-- Advances the pointer in AC `k` by IncBP (R239). -/
def advancePtr (k : AcNum) (ctl : Bool) (m : Mach) : Run Mach := do
  let kind := strKind m k ctl
  let (w1, w2) ← incBP m.st.cfg kind (m.x k) (m.x (k + 1))
  let m := m.setX k w1
  pure (if kind = .twoGlobal then m.setX (k + 1) w2 else m)

/-- Advances the pointer in AC `k` and fetches its byte. -/
def nextByte (k : AcNum) (ctl : Bool) (m : Mach) : Run (Word × Mach) := do
  let m ← advancePtr k ctl m
  let (pos, size) ← bpFields m.st.cfg (strKind m k ctl) (m.x k)
  let be ← strBP m k ctl
  let w ← m.read be (ctxOf ctl)
  pure (byteOf pos size w, m)

/-- Advances the pointer in AC `k` and deposits a byte. -/
def putByte (k : AcNum) (ctl : Bool) (b : Word) (m : Mach) : Run Mach := do
  let m ← advancePtr k ctl m
  let (pos, size) ← bpFields m.st.cfg (strKind m k ctl) (m.x k)
  let be ← strBP m k ctl
  let w ← m.read be (ctxOf ctl)
  m.write be (ctxOf ctl) (depositByte pos size w b)

/-! ## MOVSLJ -/

/-- The source byte of one round of MOVSLJ: from the string while its length is not 0, else the fill (R239). -/
def movsljSource (a : AcNum) (ctl : Bool) (fill : Word) (m : Mach) : Run (Word × Mach) :=
  if m.x a = 0 then .ok (fill, m)
  else do
    let (b, m) ← nextByte (a + 1) ctl m
    pure (b, m.setX a (m.x a - 1))

/-- The rounds of MOVSLJ (R239), at most `fuel`. -/
def movsljLoop (a : AcNum) (src dst : Bool) (fill : Word) : Nat → Mach → Run Mach
  | 0, _ => .error (.fault .stuck)
  | fuel + 1, m =>
    if m.x (a + 3) = 0 then .ok m
    else do
      let (b, m) ← movsljSource a src fill m
      let m ← putByte (a + 4) dst b m
      movsljLoop a src dst fill fuel (m.setX (a + 3) (m.x (a + 3) - 1))

/-- More rounds than a destination length can ask for (log 37). -/
def movsljFuel : Nat := 2 ^ 64

/-- MOVSLJ (R239, R243). -/
def bodyMovslj (a : AcNum) (e0 : EA) (_z : BitVec 4) (_e : AddrFields) : Body := fun f m => do
  f.guardExt true
  let e2 ← m.incRef e0
  let fill ← m.read e2 .cur
  let m ← movsljLoop a f.bits.e2 f.bits.d2 fill movsljFuel m
  pure (m.skipIf (m.x a == 0))

/-! ## The others: given references, free data -/

/-- A free count of at most `n`. -/
def freeCount (m : Mach) (n : Word) : Nat := m.fresh.toNat % (n.toNat + 1)

/-- Reads the entry of a translation table for a byte (R240), by an index of at most 18 bits (DESIGN CHOICE, log 27). -/
def readTable (op : Nat) (table : Option EA) (b : Word) (m : Mach) : Run Unit :=
  match table with
  | none => .ok ()
  | some t => do
    let _ ← m.read (addIndex t (Config.tableIndex op b)) .cur

/-- `n` bytes fetched through the pointer in AC `k`, each looked up once in the table if there is one; the bytes are handed on. For
MOVST the byte looked up is R240's source byte; that CVTDBT and EDIT look these bytes up is not in the spec (DESIGN CHOICE, log 27,
log 28). -/
def fetchBytes (op : Nat) (table : Option EA) (k : AcNum) : Nat → Mach → Run (List Word × Mach)
  | 0, m => .ok ([], m)
  | n + 1, m => do
    let (b, m) ← nextByte k false m
    readTable op table b m
    let (bs, m) ← fetchBytes op table k n m
    pure (b :: bs, m)

/-- `n` free bytes deposited through the pointer in AC `k`, each looked up once in the table if there is one, before it is stored; that
CVTBDT and EDIT look these bytes up is not in the spec (DESIGN CHOICE, log 27, log 28). -/
def storeBytes (op : Nat) (table : Option EA) (k : AcNum) : Nat → Mach → Run Mach
  | 0, m => .ok m
  | n + 1, m => do
    readTable op table m.fresh m
    let m ← putByte k false m.fresh m.drawn
    storeBytes op table k n m

/-- `n` words read at `ea`, `Inc(ea)`, ... -/
def skimWords (ea : EA) (n : Nat) (m : Mach) : Run Unit := do
  let _ ← readWords m .cur n ea

/-- The AC block A to A+5 afterwards: free values. -/
def freeBlock (a : AcNum) (m : Mach) : Mach :=
  [0, 1, 2, 3, 4, 5].foldl (fun m (d : AcNum) => m.setFree (a + d)) m

/-- The AC block A to A+5 afterwards, and the skip: free values. -/
def finishString (a : AcNum) (m : Mach) : Run Mach :=
  let m := freeBlock a m
  .ok (m.drawn.skipIf (bitAt m.fresh 35))

/-- `E1x`: the EA-calc of the extended opcode word (R238). -/
def extendedEa (e0 : EA) (e : AddrFields) (m : Mach) : Run EA :=
  m.ea (m.st.eaCalc (.ifiw e) (secOf e0.addr) .cur)

/-- MOVSxx but MOVSLJ (R240, R241): the fill word, source bytes (each looked up in `table`, the fill not: DESIGN CHOICE, log 27),
destination bytes. -/
def freeMove (op : Nat) (table : Option EA) (a : AcNum) (e0 : EA) (m : Mach) : Run Mach := do
  let e2 ← m.incRef e0
  let _ ← m.read e2 .cur
  let (_, m) ← fetchBytes op table (a + 1) (freeCount m (m.x a)) m.drawn
  let m ← storeBytes op none (a + 4) (freeCount m (m.x (a + 3))) m.drawn
  finishString a m

/-- CMPSxx (R242): the lengths are the whole words of ACs A and A+3, as in MOVSLJ (PRESUMED, log 27); the two fill words and bytes of
both strings are read; it skips where the relation `rel` that its mnemonic names holds of the strings, whose order is an unstated
function of the lengths, the fill words and the bytes read (log 27). -/
def freeCompare (op : Nat) (rel : Ordering → Bool) (a : AcNum) (e0 : EA) : Body := fun f m => do
  f.guardExt false
  let e2 ← m.incRef e0
  let fills ← readWords m .cur 2 e2
  let fixed := m.x a :: m.x (a + 3) :: fills
  let (b1, m) ← fetchBytes op none (a + 1) (freeCount m (m.x a)) m.drawn
  let (b2, m) ← fetchBytes op none (a + 4) (freeCount m (m.x (a + 3))) m.drawn
  pure ((freeBlock a m).skipIf (rel (Config.stringOrder fixed b1 b2)))

/-- CVTDBx (R233, R244): a string read through the pointer at A+1, its length the whole word of AC A (PRESUMED, log 27); a number left
in the AC block. -/
def freeToBinary (op : Nat) (usesTable : Bool) (a : AcNum) (e0 : EA) (e : AddrFields) : Body := fun f m => do
  f.guardExt false
  let e1 ← extendedEa e0 e m
  let (_, m) ← fetchBytes op (if usesTable then some e1 else none) (a + 1) (freeCount m (m.x a)) m.drawn
  finishString a m

/-- CVTBDx (R244): a string written through the pointer at A+4, its length the whole word of AC A+3 (PRESUMED, log 27). R233 gives
each instruction a pointer at A+1; R244 has CVTBDx reference nothing through one, and that is followed (DEDUCED, log 27). -/
def freeToDecimal (op : Nat) (usesTable : Bool) (a : AcNum) (e0 : EA) (e : AddrFields) : Body := fun f m => do
  f.guardExt false
  let e1 ← extendedEa e0 e m
  let m ← storeBytes op (if usesTable then some e1 else none) (a + 4) (freeCount m (m.x (a + 3))) m.drawn
  finishString a m

/-- CMPSL (R242). -/
def bodyCmpsl (a : AcNum) (e0 : EA) (_z : BitVec 4) (_e : AddrFields) : Body := freeCompare 0o001 Ordering.isLT a e0

/-- CMPSE (R242). -/
def bodyCmpse (a : AcNum) (e0 : EA) (_z : BitVec 4) (_e : AddrFields) : Body := freeCompare 0o002 Ordering.isEq a e0

/-- CMPSLE (R242). -/
def bodyCmpsle (a : AcNum) (e0 : EA) (_z : BitVec 4) (_e : AddrFields) : Body := freeCompare 0o003 Ordering.isLE a e0

/-- CMPSGE (R242). -/
def bodyCmpsge (a : AcNum) (e0 : EA) (_z : BitVec 4) (_e : AddrFields) : Body := freeCompare 0o005 Ordering.isGE a e0

/-- CMPSN (R242). -/
def bodyCmpsn (a : AcNum) (e0 : EA) (_z : BitVec 4) (_e : AddrFields) : Body := freeCompare 0o006 Ordering.isNe a e0

/-- CMPSG (R242). -/
def bodyCmpsg (a : AcNum) (e0 : EA) (_z : BitVec 4) (_e : AddrFields) : Body := freeCompare 0o007 Ordering.isGT a e0

/-- CVTDBO (R244). -/
def bodyCvtdbo (a : AcNum) (e0 : EA) (_z : BitVec 4) (e : AddrFields) : Body := freeToBinary 0o010 false a e0 e

/-- CVTDBT (R244): E1x is its table; each byte fetched is looked up there (DESIGN CHOICE, log 27). -/
def bodyCvtdbt (a : AcNum) (e0 : EA) (_z : BitVec 4) (e : AddrFields) : Body := freeToBinary 0o011 true a e0 e

/-- CVTBDO (R244). -/
def bodyCvtbdo (a : AcNum) (e0 : EA) (_z : BitVec 4) (e : AddrFields) : Body := freeToDecimal 0o012 false a e0 e

/-- CVTBDT (R244): E1x is its table; each byte stored is looked up there (DESIGN CHOICE, log 27). -/
def bodyCvtbdt (a : AcNum) (e0 : EA) (_z : BitVec 4) (e : AddrFields) : Body := freeToDecimal 0o013 true a e0 e

/-- MOVSO (R241): E1x is its byte offset. -/
def bodyMovso (a : AcNum) (e0 : EA) (_z : BitVec 4) (e : AddrFields) : Body := fun f m => do
  f.guardExt false
  let _ ← extendedEa e0 e m
  freeMove 0o014 none a e0 m

/-- MOVST (R240): E1x is its translation table. -/
def bodyMovst (a : AcNum) (e0 : EA) (_z : BitVec 4) (e : AddrFields) : Body := fun f m => do
  f.guardExt false
  let e1 ← extendedEa e0 e m
  freeMove 0o015 (some e1) a e0 m

/-- MOVSRJ (R241). -/
def bodyMovsrj (a : AcNum) (e0 : EA) (_z : BitVec 4) (_e : AddrFields) : Body := fun f m => do
  f.guardExt false
  freeMove 0o017 none a e0 m

/-- The pattern or mark address of EDIT in the word `v` (R245). -/
def editAddress (m : Mach) (v : Word) : Run EA :=
  if m.st.pcSec = 0 then
    if secField v ≠ 0 then refuse .editAddressUndefined else .ok ⟨mkAddr 0 (rh v), .loc⟩
  else .ok ⟨addrOf v, .glob⟩

/-- EDIT (R245): pattern words read from the pattern address, source bytes fetched, destination bytes stored, and perhaps a word at the
mark address; how many of each is a free value, since no length bounds them (log 28). Which bytes are looked up at E1x the spec does not
say: here each byte fetched and each byte stored is (DESIGN CHOICE, log 28). -/
def bodyEdit (a : AcNum) (e0 : EA) (_z : BitVec 4) (e : AddrFields) : Body := fun f m => do
  f.guardExt false
  let e1 ← extendedEa e0 e m
  let pat ← editAddress m (m.x a)
  let mark ← editAddress m (m.x (a + 3))
  skimWords pat m.fresh.toNat m
  let m := m.drawn
  let (_, m) ← fetchBytes 0o004 (some e1) (a + 1) m.fresh.toNat m.drawn
  let m ← storeBytes 0o004 (some e1) (a + 4) m.fresh.toNat m.drawn
  let m ← if bitAt m.fresh 35 then m.drawn.write mark .cur m.drawn.fresh else pure m.drawn
  finishString a m.drawn

/-- CMPSL as a step. -/
def execCmpsl (a : AcNum) (e0 : EA) (z : BitVec 4) (e : AddrFields) (s : State) : Host.Outcome State Fault Refusal :=
  runTop (instrWord 0o123 a ⟨false, 0, 0⟩) (bodyCmpsl a e0 z e) s

/-- CMPSE as a step. -/
def execCmpse (a : AcNum) (e0 : EA) (z : BitVec 4) (e : AddrFields) (s : State) : Host.Outcome State Fault Refusal :=
  runTop (instrWord 0o123 a ⟨false, 0, 0⟩) (bodyCmpse a e0 z e) s

/-- CMPSLE as a step. -/
def execCmpsle (a : AcNum) (e0 : EA) (z : BitVec 4) (e : AddrFields) (s : State) : Host.Outcome State Fault Refusal :=
  runTop (instrWord 0o123 a ⟨false, 0, 0⟩) (bodyCmpsle a e0 z e) s

/-- EDIT as a step. -/
def execEdit (a : AcNum) (e0 : EA) (z : BitVec 4) (e : AddrFields) (s : State) : Host.Outcome State Fault Refusal :=
  runTop (instrWord 0o123 a ⟨false, 0, 0⟩) (bodyEdit a e0 z e) s

/-- CMPSGE as a step. -/
def execCmpsge (a : AcNum) (e0 : EA) (z : BitVec 4) (e : AddrFields) (s : State) : Host.Outcome State Fault Refusal :=
  runTop (instrWord 0o123 a ⟨false, 0, 0⟩) (bodyCmpsge a e0 z e) s

/-- CMPSN as a step. -/
def execCmpsn (a : AcNum) (e0 : EA) (z : BitVec 4) (e : AddrFields) (s : State) : Host.Outcome State Fault Refusal :=
  runTop (instrWord 0o123 a ⟨false, 0, 0⟩) (bodyCmpsn a e0 z e) s

/-- CMPSG as a step. -/
def execCmpsg (a : AcNum) (e0 : EA) (z : BitVec 4) (e : AddrFields) (s : State) : Host.Outcome State Fault Refusal :=
  runTop (instrWord 0o123 a ⟨false, 0, 0⟩) (bodyCmpsg a e0 z e) s

/-- CVTDBO as a step. -/
def execCvtdbo (a : AcNum) (e0 : EA) (z : BitVec 4) (e : AddrFields) (s : State) : Host.Outcome State Fault Refusal :=
  runTop (instrWord 0o123 a ⟨false, 0, 0⟩) (bodyCvtdbo a e0 z e) s

/-- CVTDBT as a step. -/
def execCvtdbt (a : AcNum) (e0 : EA) (z : BitVec 4) (e : AddrFields) (s : State) : Host.Outcome State Fault Refusal :=
  runTop (instrWord 0o123 a ⟨false, 0, 0⟩) (bodyCvtdbt a e0 z e) s

/-- CVTBDO as a step. -/
def execCvtbdo (a : AcNum) (e0 : EA) (z : BitVec 4) (e : AddrFields) (s : State) : Host.Outcome State Fault Refusal :=
  runTop (instrWord 0o123 a ⟨false, 0, 0⟩) (bodyCvtbdo a e0 z e) s

/-- CVTBDT as a step. -/
def execCvtbdt (a : AcNum) (e0 : EA) (z : BitVec 4) (e : AddrFields) (s : State) : Host.Outcome State Fault Refusal :=
  runTop (instrWord 0o123 a ⟨false, 0, 0⟩) (bodyCvtbdt a e0 z e) s

/-- MOVSO as a step. -/
def execMovso (a : AcNum) (e0 : EA) (z : BitVec 4) (e : AddrFields) (s : State) : Host.Outcome State Fault Refusal :=
  runTop (instrWord 0o123 a ⟨false, 0, 0⟩) (bodyMovso a e0 z e) s

/-- MOVST as a step. -/
def execMovst (a : AcNum) (e0 : EA) (z : BitVec 4) (e : AddrFields) (s : State) : Host.Outcome State Fault Refusal :=
  runTop (instrWord 0o123 a ⟨false, 0, 0⟩) (bodyMovst a e0 z e) s

/-- MOVSLJ as a step. -/
def execMovslj (a : AcNum) (e0 : EA) (z : BitVec 4) (e : AddrFields) (s : State) : Host.Outcome State Fault Refusal :=
  runTop (instrWord 0o123 a ⟨false, 0, 0⟩) (bodyMovslj a e0 z e) s

/-- MOVSRJ as a step. -/
def execMovsrj (a : AcNum) (e0 : EA) (z : BitVec 4) (e : AddrFields) (s : State) : Host.Outcome State Fault Refusal :=
  runTop (instrWord 0o123 a ⟨false, 0, 0⟩) (bodyMovsrj a e0 z e) s

end Sys2Proof.Machine
end

