-- ==== Sys2Proof/Machine/Extend.lean ====
section
/-! DEFINITION. EXTEND (spec/42_extend.md R230): the extended opcode word and the choice of the extended instruction. -/

namespace Sys2Proof.Machine

/-- The extended instruction an opcode word selects (R230); an opcode with no assigned instruction is an MUUO (45_uuo.md R346). -/
def extendedBody (a : AcNum) (e0 : EA) (xw : Word) : Body :=
  match (opField xw).toNat with
  | 0o001 => bodyCmpsl a e0 (acField xw) (fieldsOf xw)
  | 0o002 => bodyCmpse a e0 (acField xw) (fieldsOf xw)
  | 0o003 => bodyCmpsle a e0 (acField xw) (fieldsOf xw)
  | 0o004 => bodyEdit a e0 (acField xw) (fieldsOf xw)
  | 0o005 => bodyCmpsge a e0 (acField xw) (fieldsOf xw)
  | 0o006 => bodyCmpsn a e0 (acField xw) (fieldsOf xw)
  | 0o007 => bodyCmpsg a e0 (acField xw) (fieldsOf xw)
  | 0o010 => bodyCvtdbo a e0 (acField xw) (fieldsOf xw)
  | 0o011 => bodyCvtdbt a e0 (acField xw) (fieldsOf xw)
  | 0o012 => bodyCvtbdo a e0 (acField xw) (fieldsOf xw)
  | 0o013 => bodyCvtbdt a e0 (acField xw) (fieldsOf xw)
  | 0o014 => bodyMovso a e0 (acField xw) (fieldsOf xw)
  | 0o015 => bodyMovst a e0 (acField xw) (fieldsOf xw)
  | 0o016 => bodyMovslj a e0 (acField xw) (fieldsOf xw)
  | 0o017 => bodyMovsrj a e0 (acField xw) (fieldsOf xw)
  | 0o020 => bodyXblt a e0 (acField xw) (fieldsOf xw)
  | _ => fun f m => do
    f.guardExt false
    .error (.trap (.muuo 0o123 a e0) m)

/-- A PXCT of EXTEND has E1 and D1 clear (48_xct_pxct.md R444, R454). -/
def Frame.guardExtend (f : Frame) : Run Unit :=
  match f.px with
  | none => .ok ()
  | some p => if !p.e1 && !p.d1 && (p.e2 || p.d2) then .ok () else refuse .pxctIllegalBits

/-- EXTEND (R230): E0 and the extended opcode word, both in current context, then the extended instruction. -/
def bodyExtend (a : AcNum) (e : AddrFields) : Body := fun f m => do
  f.guardExtend
  let e0 ← m.ea (m.st.eaCalc (.ifiw e) f.sec .cur)
  let xw ← m.read e0 .cur
  extendedBody a e0 (standardExtended m.st.cfg.opcodes xw) f m

/-- EXTEND as a step. -/
def execExtend (a : AcNum) (e : AddrFields) (s : State) : Host.Outcome State Fault Refusal :=
  runTop (instrWord 0o123 a e) (bodyExtend a e) s

end Sys2Proof.Machine
end

