-- ==== Sys2Proof/Machine/Floating.lean ====
section
/-! DEFINITION. Floating-point arithmetic (spec/47_general.md R403): the references of R400 and free results (log 6, log 7, log 8). -/

namespace Sys2Proof.Machine

/-- DFAD (R403). -/
def bodyDfad (a : AcNum) (e : AddrFields) : Body := dataOp 0o110 { use := .read, words := 2, ins := [0, 1], outs := [0, 1] } a e

/-- DFSB (R403). -/
def bodyDfsb (a : AcNum) (e : AddrFields) : Body := dataOp 0o111 { use := .read, words := 2, ins := [0, 1], outs := [0, 1] } a e

/-- DFMP (R403). -/
def bodyDfmp (a : AcNum) (e : AddrFields) : Body := dataOp 0o112 { use := .read, words := 2, ins := [0, 1], outs := [0, 1] } a e

/-- DFDV (R403). -/
def bodyDfdv (a : AcNum) (e : AddrFields) : Body := dataOp 0o113 { use := .read, words := 2, ins := [0, 1], outs := [0, 1] } a e

/-- FIX (R403). -/
def bodyFix (a : AcNum) (e : AddrFields) : Body := dataOp 0o122 { use := .read, ins := [] } a e

/-- FIXR (R403). -/
def bodyFixr (a : AcNum) (e : AddrFields) : Body := dataOp 0o126 { use := .read, ins := [] } a e

/-- FLTR (R403). -/
def bodyFltr (a : AcNum) (e : AddrFields) : Body := dataOp 0o127 { use := .read, ins := [] } a e

/-- UFA (R403). -/
def bodyUfa (a : AcNum) (e : AddrFields) : Body := dataOp 0o130 { use := .read, outs := [1] } a e

/-- DFN (R403): it has no mode suffix, so it reads E and makes no write reference (R400, R410). That AC A alone receives the
result is log 7 (PRESUMED). -/
def bodyDfn (a : AcNum) (e : AddrFields) : Body := dataOp 0o131 shapeBasic a e

/-- FSC (R403). -/
def bodyFsc (a : AcNum) (e : AddrFields) : Body := dataOp 0o132 shapeImm a e

/-- FAD (R403). -/
def bodyFad (a : AcNum) (e : AddrFields) : Body := dataOp 0o140 shapeBasic a e

/-- FADM (R403). -/
def bodyFadm (a : AcNum) (e : AddrFields) : Body := dataOp 0o142 shapeMem a e

/-- FADB (R403). -/
def bodyFadb (a : AcNum) (e : AddrFields) : Body := dataOp 0o143 shapeBoth a e

/-- FADR (R403). -/
def bodyFadr (a : AcNum) (e : AddrFields) : Body := dataOp 0o144 shapeBasic a e

/-- FADRI (R403). -/
def bodyFadri (a : AcNum) (e : AddrFields) : Body := dataOp 0o145 shapeImm a e

/-- FADRM (R403). -/
def bodyFadrm (a : AcNum) (e : AddrFields) : Body := dataOp 0o146 shapeMem a e

/-- FADRB (R403). -/
def bodyFadrb (a : AcNum) (e : AddrFields) : Body := dataOp 0o147 shapeBoth a e

/-- FSB (R403). -/
def bodyFsb (a : AcNum) (e : AddrFields) : Body := dataOp 0o150 shapeBasic a e

/-- FSBM (R403). -/
def bodyFsbm (a : AcNum) (e : AddrFields) : Body := dataOp 0o152 shapeMem a e

/-- FSBB (R403). -/
def bodyFsbb (a : AcNum) (e : AddrFields) : Body := dataOp 0o153 shapeBoth a e

/-- FSBR (R403). -/
def bodyFsbr (a : AcNum) (e : AddrFields) : Body := dataOp 0o154 shapeBasic a e

/-- FSBRI (R403). -/
def bodyFsbri (a : AcNum) (e : AddrFields) : Body := dataOp 0o155 shapeImm a e

/-- FSBRM (R403). -/
def bodyFsbrm (a : AcNum) (e : AddrFields) : Body := dataOp 0o156 shapeMem a e

/-- FSBRB (R403). -/
def bodyFsbrb (a : AcNum) (e : AddrFields) : Body := dataOp 0o157 shapeBoth a e

/-- FMP (R403). -/
def bodyFmp (a : AcNum) (e : AddrFields) : Body := dataOp 0o160 shapeBasic a e

/-- FMPM (R403). -/
def bodyFmpm (a : AcNum) (e : AddrFields) : Body := dataOp 0o162 shapeMem a e

/-- FMPB (R403). -/
def bodyFmpb (a : AcNum) (e : AddrFields) : Body := dataOp 0o163 shapeBoth a e

/-- FMPR (R403). -/
def bodyFmpr (a : AcNum) (e : AddrFields) : Body := dataOp 0o164 shapeBasic a e

/-- FMPRI (R403). -/
def bodyFmpri (a : AcNum) (e : AddrFields) : Body := dataOp 0o165 shapeImm a e

/-- FMPRM (R403). -/
def bodyFmprm (a : AcNum) (e : AddrFields) : Body := dataOp 0o166 shapeMem a e

/-- FMPRB (R403). -/
def bodyFmprb (a : AcNum) (e : AddrFields) : Body := dataOp 0o167 shapeBoth a e

/-- FDV (R403). -/
def bodyFdv (a : AcNum) (e : AddrFields) : Body := dataOp 0o170 shapeBasic a e

/-- FDVM (R403). -/
def bodyFdvm (a : AcNum) (e : AddrFields) : Body := dataOp 0o172 shapeMem a e

/-- FDVB (R403). -/
def bodyFdvb (a : AcNum) (e : AddrFields) : Body := dataOp 0o173 shapeBoth a e

/-- FDVR (R403). -/
def bodyFdvr (a : AcNum) (e : AddrFields) : Body := dataOp 0o174 shapeBasic a e

/-- FDVRI (R403). -/
def bodyFdvri (a : AcNum) (e : AddrFields) : Body := dataOp 0o175 shapeImm a e

/-- FDVRM (R403). -/
def bodyFdvrm (a : AcNum) (e : AddrFields) : Body := dataOp 0o176 shapeMem a e

/-- FDVRB (R403). -/
def bodyFdvrb (a : AcNum) (e : AddrFields) : Body := dataOp 0o177 shapeBoth a e

/-- DFAD as a step. -/
def execDfad (a : AcNum) (e : AddrFields) (s : State) : Host.Outcome State Fault Refusal :=
  runTop (instrWord 0o110 a e) (bodyDfad a e) s

/-- DFSB as a step. -/
def execDfsb (a : AcNum) (e : AddrFields) (s : State) : Host.Outcome State Fault Refusal :=
  runTop (instrWord 0o111 a e) (bodyDfsb a e) s

/-- DFMP as a step. -/
def execDfmp (a : AcNum) (e : AddrFields) (s : State) : Host.Outcome State Fault Refusal :=
  runTop (instrWord 0o112 a e) (bodyDfmp a e) s

/-- DFDV as a step. -/
def execDfdv (a : AcNum) (e : AddrFields) (s : State) : Host.Outcome State Fault Refusal :=
  runTop (instrWord 0o113 a e) (bodyDfdv a e) s

/-- FIX as a step. -/
def execFix (a : AcNum) (e : AddrFields) (s : State) : Host.Outcome State Fault Refusal :=
  runTop (instrWord 0o122 a e) (bodyFix a e) s

/-- FIXR as a step. -/
def execFixr (a : AcNum) (e : AddrFields) (s : State) : Host.Outcome State Fault Refusal :=
  runTop (instrWord 0o126 a e) (bodyFixr a e) s

/-- FLTR as a step. -/
def execFltr (a : AcNum) (e : AddrFields) (s : State) : Host.Outcome State Fault Refusal :=
  runTop (instrWord 0o127 a e) (bodyFltr a e) s

/-- UFA as a step. -/
def execUfa (a : AcNum) (e : AddrFields) (s : State) : Host.Outcome State Fault Refusal :=
  runTop (instrWord 0o130 a e) (bodyUfa a e) s

/-- DFN as a step. -/
def execDfn (a : AcNum) (e : AddrFields) (s : State) : Host.Outcome State Fault Refusal :=
  runTop (instrWord 0o131 a e) (bodyDfn a e) s

/-- FSC as a step. -/
def execFsc (a : AcNum) (e : AddrFields) (s : State) : Host.Outcome State Fault Refusal :=
  runTop (instrWord 0o132 a e) (bodyFsc a e) s

/-- FAD as a step. -/
def execFad (a : AcNum) (e : AddrFields) (s : State) : Host.Outcome State Fault Refusal :=
  runTop (instrWord 0o140 a e) (bodyFad a e) s

/-- FADM as a step. -/
def execFadm (a : AcNum) (e : AddrFields) (s : State) : Host.Outcome State Fault Refusal :=
  runTop (instrWord 0o142 a e) (bodyFadm a e) s

/-- FADB as a step. -/
def execFadb (a : AcNum) (e : AddrFields) (s : State) : Host.Outcome State Fault Refusal :=
  runTop (instrWord 0o143 a e) (bodyFadb a e) s

/-- FADR as a step. -/
def execFadr (a : AcNum) (e : AddrFields) (s : State) : Host.Outcome State Fault Refusal :=
  runTop (instrWord 0o144 a e) (bodyFadr a e) s

/-- FADRI as a step. -/
def execFadri (a : AcNum) (e : AddrFields) (s : State) : Host.Outcome State Fault Refusal :=
  runTop (instrWord 0o145 a e) (bodyFadri a e) s

/-- FADRM as a step. -/
def execFadrm (a : AcNum) (e : AddrFields) (s : State) : Host.Outcome State Fault Refusal :=
  runTop (instrWord 0o146 a e) (bodyFadrm a e) s

/-- FADRB as a step. -/
def execFadrb (a : AcNum) (e : AddrFields) (s : State) : Host.Outcome State Fault Refusal :=
  runTop (instrWord 0o147 a e) (bodyFadrb a e) s

/-- FSB as a step. -/
def execFsb (a : AcNum) (e : AddrFields) (s : State) : Host.Outcome State Fault Refusal :=
  runTop (instrWord 0o150 a e) (bodyFsb a e) s

/-- FSBM as a step. -/
def execFsbm (a : AcNum) (e : AddrFields) (s : State) : Host.Outcome State Fault Refusal :=
  runTop (instrWord 0o152 a e) (bodyFsbm a e) s

/-- FSBB as a step. -/
def execFsbb (a : AcNum) (e : AddrFields) (s : State) : Host.Outcome State Fault Refusal :=
  runTop (instrWord 0o153 a e) (bodyFsbb a e) s

/-- FSBR as a step. -/
def execFsbr (a : AcNum) (e : AddrFields) (s : State) : Host.Outcome State Fault Refusal :=
  runTop (instrWord 0o154 a e) (bodyFsbr a e) s

/-- FSBRI as a step. -/
def execFsbri (a : AcNum) (e : AddrFields) (s : State) : Host.Outcome State Fault Refusal :=
  runTop (instrWord 0o155 a e) (bodyFsbri a e) s

/-- FSBRM as a step. -/
def execFsbrm (a : AcNum) (e : AddrFields) (s : State) : Host.Outcome State Fault Refusal :=
  runTop (instrWord 0o156 a e) (bodyFsbrm a e) s

/-- FSBRB as a step. -/
def execFsbrb (a : AcNum) (e : AddrFields) (s : State) : Host.Outcome State Fault Refusal :=
  runTop (instrWord 0o157 a e) (bodyFsbrb a e) s

/-- FMP as a step. -/
def execFmp (a : AcNum) (e : AddrFields) (s : State) : Host.Outcome State Fault Refusal :=
  runTop (instrWord 0o160 a e) (bodyFmp a e) s

/-- FMPM as a step. -/
def execFmpm (a : AcNum) (e : AddrFields) (s : State) : Host.Outcome State Fault Refusal :=
  runTop (instrWord 0o162 a e) (bodyFmpm a e) s

/-- FMPB as a step. -/
def execFmpb (a : AcNum) (e : AddrFields) (s : State) : Host.Outcome State Fault Refusal :=
  runTop (instrWord 0o163 a e) (bodyFmpb a e) s

/-- FMPR as a step. -/
def execFmpr (a : AcNum) (e : AddrFields) (s : State) : Host.Outcome State Fault Refusal :=
  runTop (instrWord 0o164 a e) (bodyFmpr a e) s

/-- FMPRI as a step. -/
def execFmpri (a : AcNum) (e : AddrFields) (s : State) : Host.Outcome State Fault Refusal :=
  runTop (instrWord 0o165 a e) (bodyFmpri a e) s

/-- FMPRM as a step. -/
def execFmprm (a : AcNum) (e : AddrFields) (s : State) : Host.Outcome State Fault Refusal :=
  runTop (instrWord 0o166 a e) (bodyFmprm a e) s

/-- FMPRB as a step. -/
def execFmprb (a : AcNum) (e : AddrFields) (s : State) : Host.Outcome State Fault Refusal :=
  runTop (instrWord 0o167 a e) (bodyFmprb a e) s

/-- FDV as a step. -/
def execFdv (a : AcNum) (e : AddrFields) (s : State) : Host.Outcome State Fault Refusal :=
  runTop (instrWord 0o170 a e) (bodyFdv a e) s

/-- FDVM as a step. -/
def execFdvm (a : AcNum) (e : AddrFields) (s : State) : Host.Outcome State Fault Refusal :=
  runTop (instrWord 0o172 a e) (bodyFdvm a e) s

/-- FDVB as a step. -/
def execFdvb (a : AcNum) (e : AddrFields) (s : State) : Host.Outcome State Fault Refusal :=
  runTop (instrWord 0o173 a e) (bodyFdvb a e) s

/-- FDVR as a step. -/
def execFdvr (a : AcNum) (e : AddrFields) (s : State) : Host.Outcome State Fault Refusal :=
  runTop (instrWord 0o174 a e) (bodyFdvr a e) s

/-- FDVRI as a step. -/
def execFdvri (a : AcNum) (e : AddrFields) (s : State) : Host.Outcome State Fault Refusal :=
  runTop (instrWord 0o175 a e) (bodyFdvri a e) s

/-- FDVRM as a step. -/
def execFdvrm (a : AcNum) (e : AddrFields) (s : State) : Host.Outcome State Fault Refusal :=
  runTop (instrWord 0o176 a e) (bodyFdvrm a e) s

/-- FDVRB as a step. -/
def execFdvrb (a : AcNum) (e : AddrFields) (s : State) : Host.Outcome State Fault Refusal :=
  runTop (instrWord 0o177 a e) (bodyFdvrb a e) s

end Sys2Proof.Machine
end

