-- ==== Sys2Proof/Machine/Halfword.lean ====
section
/-! DEFINITION. The halfword class (spec/47_general.md R402) but XHLLI: the references of R400 and free results (log 6, log 7). -/

namespace Sys2Proof.Machine

/-- HLL (R402). -/
def bodyHll (a : AcNum) (e : AddrFields) : Body := dataOp 0o500 shapeBasic a e

/-- HLLM (R402). -/
def bodyHllm (a : AcNum) (e : AddrFields) : Body := dataOp 0o502 shapeMem a e

/-- HLLS (R402). -/
def bodyHlls (a : AcNum) (e : AddrFields) : Body := dataOp 0o503 shapeSelf a e

/-- HRL (R402). -/
def bodyHrl (a : AcNum) (e : AddrFields) : Body := dataOp 0o504 shapeBasic a e

/-- HRLI (R402). -/
def bodyHrli (a : AcNum) (e : AddrFields) : Body := dataOp 0o505 shapeImm a e

/-- HRLM (R402). -/
def bodyHrlm (a : AcNum) (e : AddrFields) : Body := dataOp 0o506 shapeMem a e

/-- HRLS (R402). -/
def bodyHrls (a : AcNum) (e : AddrFields) : Body := dataOp 0o507 shapeSelf a e

/-- HLLZ (R402). -/
def bodyHllz (a : AcNum) (e : AddrFields) : Body := dataOp 0o510 shapeBasic a e

/-- HLLZI (R402). -/
def bodyHllzi (a : AcNum) (e : AddrFields) : Body := dataOp 0o511 shapeImm a e

/-- HLLZM (R402). -/
def bodyHllzm (a : AcNum) (e : AddrFields) : Body := dataOp 0o512 shapeMem a e

/-- HLLZS (R402). -/
def bodyHllzs (a : AcNum) (e : AddrFields) : Body := dataOp 0o513 shapeSelf a e

/-- HRLZ (R402). -/
def bodyHrlz (a : AcNum) (e : AddrFields) : Body := dataOp 0o514 shapeBasic a e

/-- HRLZI (R402). -/
def bodyHrlzi (a : AcNum) (e : AddrFields) : Body := dataOp 0o515 shapeImm a e

/-- HRLZM (R402). -/
def bodyHrlzm (a : AcNum) (e : AddrFields) : Body := dataOp 0o516 shapeMem a e

/-- HRLZS (R402). -/
def bodyHrlzs (a : AcNum) (e : AddrFields) : Body := dataOp 0o517 shapeSelf a e

/-- HLLO (R402). -/
def bodyHllo (a : AcNum) (e : AddrFields) : Body := dataOp 0o520 shapeBasic a e

/-- HLLOI (R402). -/
def bodyHlloi (a : AcNum) (e : AddrFields) : Body := dataOp 0o521 shapeImm a e

/-- HLLOM (R402). -/
def bodyHllom (a : AcNum) (e : AddrFields) : Body := dataOp 0o522 shapeMem a e

/-- HLLOS (R402). -/
def bodyHllos (a : AcNum) (e : AddrFields) : Body := dataOp 0o523 shapeSelf a e

/-- HRLO (R402). -/
def bodyHrlo (a : AcNum) (e : AddrFields) : Body := dataOp 0o524 shapeBasic a e

/-- HRLOI (R402). -/
def bodyHrloi (a : AcNum) (e : AddrFields) : Body := dataOp 0o525 shapeImm a e

/-- HRLOM (R402). -/
def bodyHrlom (a : AcNum) (e : AddrFields) : Body := dataOp 0o526 shapeMem a e

/-- HRLOS (R402). -/
def bodyHrlos (a : AcNum) (e : AddrFields) : Body := dataOp 0o527 shapeSelf a e

/-- HLLE (R402). -/
def bodyHlle (a : AcNum) (e : AddrFields) : Body := dataOp 0o530 shapeBasic a e

/-- HLLEI (R402). -/
def bodyHllei (a : AcNum) (e : AddrFields) : Body := dataOp 0o531 shapeImm a e

/-- HLLEM (R402). -/
def bodyHllem (a : AcNum) (e : AddrFields) : Body := dataOp 0o532 shapeMem a e

/-- HLLES (R402). -/
def bodyHlles (a : AcNum) (e : AddrFields) : Body := dataOp 0o533 shapeSelf a e

/-- HRLE (R402). -/
def bodyHrle (a : AcNum) (e : AddrFields) : Body := dataOp 0o534 shapeBasic a e

/-- HRLEI (R402). -/
def bodyHrlei (a : AcNum) (e : AddrFields) : Body := dataOp 0o535 shapeImm a e

/-- HRLEM (R402). -/
def bodyHrlem (a : AcNum) (e : AddrFields) : Body := dataOp 0o536 shapeMem a e

/-- HRLES (R402). -/
def bodyHrles (a : AcNum) (e : AddrFields) : Body := dataOp 0o537 shapeSelf a e

/-- HRR (R402). -/
def bodyHrr (a : AcNum) (e : AddrFields) : Body := dataOp 0o540 shapeBasic a e

/-- HRRI (R402). -/
def bodyHrri (a : AcNum) (e : AddrFields) : Body := dataOp 0o541 shapeImm a e

/-- HRRM (R402). -/
def bodyHrrm (a : AcNum) (e : AddrFields) : Body := dataOp 0o542 shapeMem a e

/-- HRRS (R402). -/
def bodyHrrs (a : AcNum) (e : AddrFields) : Body := dataOp 0o543 shapeSelf a e

/-- HLR (R402). -/
def bodyHlr (a : AcNum) (e : AddrFields) : Body := dataOp 0o544 shapeBasic a e

/-- HLRI (R402). -/
def bodyHlri (a : AcNum) (e : AddrFields) : Body := dataOp 0o545 shapeImm a e

/-- HLRM (R402). -/
def bodyHlrm (a : AcNum) (e : AddrFields) : Body := dataOp 0o546 shapeMem a e

/-- HLRS (R402). -/
def bodyHlrs (a : AcNum) (e : AddrFields) : Body := dataOp 0o547 shapeSelf a e

/-- HRRZ (R402). -/
def bodyHrrz (a : AcNum) (e : AddrFields) : Body := dataOp 0o550 shapeBasic a e

/-- HRRZI (R402). -/
def bodyHrrzi (a : AcNum) (e : AddrFields) : Body := dataOp 0o551 shapeImm a e

/-- HRRZM (R402). -/
def bodyHrrzm (a : AcNum) (e : AddrFields) : Body := dataOp 0o552 shapeMem a e

/-- HRRZS (R402). -/
def bodyHrrzs (a : AcNum) (e : AddrFields) : Body := dataOp 0o553 shapeSelf a e

/-- HLRZ (R402). -/
def bodyHlrz (a : AcNum) (e : AddrFields) : Body := dataOp 0o554 shapeBasic a e

/-- HLRZI (R402). -/
def bodyHlrzi (a : AcNum) (e : AddrFields) : Body := dataOp 0o555 shapeImm a e

/-- HLRZM (R402). -/
def bodyHlrzm (a : AcNum) (e : AddrFields) : Body := dataOp 0o556 shapeMem a e

/-- HLRZS (R402). -/
def bodyHlrzs (a : AcNum) (e : AddrFields) : Body := dataOp 0o557 shapeSelf a e

/-- HRRO (R402). -/
def bodyHrro (a : AcNum) (e : AddrFields) : Body := dataOp 0o560 shapeBasic a e

/-- HRROI (R402). -/
def bodyHrroi (a : AcNum) (e : AddrFields) : Body := dataOp 0o561 shapeImm a e

/-- HRROM (R402). -/
def bodyHrrom (a : AcNum) (e : AddrFields) : Body := dataOp 0o562 shapeMem a e

/-- HRROS (R402). -/
def bodyHrros (a : AcNum) (e : AddrFields) : Body := dataOp 0o563 shapeSelf a e

/-- HLRO (R402). -/
def bodyHlro (a : AcNum) (e : AddrFields) : Body := dataOp 0o564 shapeBasic a e

/-- HLROI (R402). -/
def bodyHlroi (a : AcNum) (e : AddrFields) : Body := dataOp 0o565 shapeImm a e

/-- HLROM (R402). -/
def bodyHlrom (a : AcNum) (e : AddrFields) : Body := dataOp 0o566 shapeMem a e

/-- HLROS (R402). -/
def bodyHlros (a : AcNum) (e : AddrFields) : Body := dataOp 0o567 shapeSelf a e

/-- HRRE (R402). -/
def bodyHrre (a : AcNum) (e : AddrFields) : Body := dataOp 0o570 shapeBasic a e

/-- HRREI (R402). -/
def bodyHrrei (a : AcNum) (e : AddrFields) : Body := dataOp 0o571 shapeImm a e

/-- HRREM (R402). -/
def bodyHrrem (a : AcNum) (e : AddrFields) : Body := dataOp 0o572 shapeMem a e

/-- HRRES (R402). -/
def bodyHrres (a : AcNum) (e : AddrFields) : Body := dataOp 0o573 shapeSelf a e

/-- HLRE (R402). -/
def bodyHlre (a : AcNum) (e : AddrFields) : Body := dataOp 0o574 shapeBasic a e

/-- HLREI (R402). -/
def bodyHlrei (a : AcNum) (e : AddrFields) : Body := dataOp 0o575 shapeImm a e

/-- HLREM (R402). -/
def bodyHlrem (a : AcNum) (e : AddrFields) : Body := dataOp 0o576 shapeMem a e

/-- HLRES (R402). -/
def bodyHlres (a : AcNum) (e : AddrFields) : Body := dataOp 0o577 shapeSelf a e

/-- HLL as a step. -/
def execHll (a : AcNum) (e : AddrFields) (s : State) : Host.Outcome State Fault Refusal :=
  runTop (instrWord 0o500 a e) (bodyHll a e) s

/-- HLLM as a step. -/
def execHllm (a : AcNum) (e : AddrFields) (s : State) : Host.Outcome State Fault Refusal :=
  runTop (instrWord 0o502 a e) (bodyHllm a e) s

/-- HLLS as a step. -/
def execHlls (a : AcNum) (e : AddrFields) (s : State) : Host.Outcome State Fault Refusal :=
  runTop (instrWord 0o503 a e) (bodyHlls a e) s

/-- HRL as a step. -/
def execHrl (a : AcNum) (e : AddrFields) (s : State) : Host.Outcome State Fault Refusal :=
  runTop (instrWord 0o504 a e) (bodyHrl a e) s

/-- HRLI as a step. -/
def execHrli (a : AcNum) (e : AddrFields) (s : State) : Host.Outcome State Fault Refusal :=
  runTop (instrWord 0o505 a e) (bodyHrli a e) s

/-- HRLM as a step. -/
def execHrlm (a : AcNum) (e : AddrFields) (s : State) : Host.Outcome State Fault Refusal :=
  runTop (instrWord 0o506 a e) (bodyHrlm a e) s

/-- HRLS as a step. -/
def execHrls (a : AcNum) (e : AddrFields) (s : State) : Host.Outcome State Fault Refusal :=
  runTop (instrWord 0o507 a e) (bodyHrls a e) s

/-- HLLZ as a step. -/
def execHllz (a : AcNum) (e : AddrFields) (s : State) : Host.Outcome State Fault Refusal :=
  runTop (instrWord 0o510 a e) (bodyHllz a e) s

/-- HLLZI as a step. -/
def execHllzi (a : AcNum) (e : AddrFields) (s : State) : Host.Outcome State Fault Refusal :=
  runTop (instrWord 0o511 a e) (bodyHllzi a e) s

/-- HLLZM as a step. -/
def execHllzm (a : AcNum) (e : AddrFields) (s : State) : Host.Outcome State Fault Refusal :=
  runTop (instrWord 0o512 a e) (bodyHllzm a e) s

/-- HLLZS as a step. -/
def execHllzs (a : AcNum) (e : AddrFields) (s : State) : Host.Outcome State Fault Refusal :=
  runTop (instrWord 0o513 a e) (bodyHllzs a e) s

/-- HRLZ as a step. -/
def execHrlz (a : AcNum) (e : AddrFields) (s : State) : Host.Outcome State Fault Refusal :=
  runTop (instrWord 0o514 a e) (bodyHrlz a e) s

/-- HRLZI as a step. -/
def execHrlzi (a : AcNum) (e : AddrFields) (s : State) : Host.Outcome State Fault Refusal :=
  runTop (instrWord 0o515 a e) (bodyHrlzi a e) s

/-- HRLZM as a step. -/
def execHrlzm (a : AcNum) (e : AddrFields) (s : State) : Host.Outcome State Fault Refusal :=
  runTop (instrWord 0o516 a e) (bodyHrlzm a e) s

/-- HRLZS as a step. -/
def execHrlzs (a : AcNum) (e : AddrFields) (s : State) : Host.Outcome State Fault Refusal :=
  runTop (instrWord 0o517 a e) (bodyHrlzs a e) s

/-- HLLO as a step. -/
def execHllo (a : AcNum) (e : AddrFields) (s : State) : Host.Outcome State Fault Refusal :=
  runTop (instrWord 0o520 a e) (bodyHllo a e) s

/-- HLLOI as a step. -/
def execHlloi (a : AcNum) (e : AddrFields) (s : State) : Host.Outcome State Fault Refusal :=
  runTop (instrWord 0o521 a e) (bodyHlloi a e) s

/-- HLLOM as a step. -/
def execHllom (a : AcNum) (e : AddrFields) (s : State) : Host.Outcome State Fault Refusal :=
  runTop (instrWord 0o522 a e) (bodyHllom a e) s

/-- HLLOS as a step. -/
def execHllos (a : AcNum) (e : AddrFields) (s : State) : Host.Outcome State Fault Refusal :=
  runTop (instrWord 0o523 a e) (bodyHllos a e) s

/-- HRLO as a step. -/
def execHrlo (a : AcNum) (e : AddrFields) (s : State) : Host.Outcome State Fault Refusal :=
  runTop (instrWord 0o524 a e) (bodyHrlo a e) s

/-- HRLOI as a step. -/
def execHrloi (a : AcNum) (e : AddrFields) (s : State) : Host.Outcome State Fault Refusal :=
  runTop (instrWord 0o525 a e) (bodyHrloi a e) s

/-- HRLOM as a step. -/
def execHrlom (a : AcNum) (e : AddrFields) (s : State) : Host.Outcome State Fault Refusal :=
  runTop (instrWord 0o526 a e) (bodyHrlom a e) s

/-- HRLOS as a step. -/
def execHrlos (a : AcNum) (e : AddrFields) (s : State) : Host.Outcome State Fault Refusal :=
  runTop (instrWord 0o527 a e) (bodyHrlos a e) s

/-- HLLE as a step. -/
def execHlle (a : AcNum) (e : AddrFields) (s : State) : Host.Outcome State Fault Refusal :=
  runTop (instrWord 0o530 a e) (bodyHlle a e) s

/-- HLLEI as a step. -/
def execHllei (a : AcNum) (e : AddrFields) (s : State) : Host.Outcome State Fault Refusal :=
  runTop (instrWord 0o531 a e) (bodyHllei a e) s

/-- HLLEM as a step. -/
def execHllem (a : AcNum) (e : AddrFields) (s : State) : Host.Outcome State Fault Refusal :=
  runTop (instrWord 0o532 a e) (bodyHllem a e) s

/-- HLLES as a step. -/
def execHlles (a : AcNum) (e : AddrFields) (s : State) : Host.Outcome State Fault Refusal :=
  runTop (instrWord 0o533 a e) (bodyHlles a e) s

/-- HRLE as a step. -/
def execHrle (a : AcNum) (e : AddrFields) (s : State) : Host.Outcome State Fault Refusal :=
  runTop (instrWord 0o534 a e) (bodyHrle a e) s

/-- HRLEI as a step. -/
def execHrlei (a : AcNum) (e : AddrFields) (s : State) : Host.Outcome State Fault Refusal :=
  runTop (instrWord 0o535 a e) (bodyHrlei a e) s

/-- HRLEM as a step. -/
def execHrlem (a : AcNum) (e : AddrFields) (s : State) : Host.Outcome State Fault Refusal :=
  runTop (instrWord 0o536 a e) (bodyHrlem a e) s

/-- HRLES as a step. -/
def execHrles (a : AcNum) (e : AddrFields) (s : State) : Host.Outcome State Fault Refusal :=
  runTop (instrWord 0o537 a e) (bodyHrles a e) s

/-- HRR as a step. -/
def execHrr (a : AcNum) (e : AddrFields) (s : State) : Host.Outcome State Fault Refusal :=
  runTop (instrWord 0o540 a e) (bodyHrr a e) s

/-- HRRI as a step. -/
def execHrri (a : AcNum) (e : AddrFields) (s : State) : Host.Outcome State Fault Refusal :=
  runTop (instrWord 0o541 a e) (bodyHrri a e) s

/-- HRRM as a step. -/
def execHrrm (a : AcNum) (e : AddrFields) (s : State) : Host.Outcome State Fault Refusal :=
  runTop (instrWord 0o542 a e) (bodyHrrm a e) s

/-- HRRS as a step. -/
def execHrrs (a : AcNum) (e : AddrFields) (s : State) : Host.Outcome State Fault Refusal :=
  runTop (instrWord 0o543 a e) (bodyHrrs a e) s

/-- HLR as a step. -/
def execHlr (a : AcNum) (e : AddrFields) (s : State) : Host.Outcome State Fault Refusal :=
  runTop (instrWord 0o544 a e) (bodyHlr a e) s

/-- HLRI as a step. -/
def execHlri (a : AcNum) (e : AddrFields) (s : State) : Host.Outcome State Fault Refusal :=
  runTop (instrWord 0o545 a e) (bodyHlri a e) s

/-- HLRM as a step. -/
def execHlrm (a : AcNum) (e : AddrFields) (s : State) : Host.Outcome State Fault Refusal :=
  runTop (instrWord 0o546 a e) (bodyHlrm a e) s

/-- HLRS as a step. -/
def execHlrs (a : AcNum) (e : AddrFields) (s : State) : Host.Outcome State Fault Refusal :=
  runTop (instrWord 0o547 a e) (bodyHlrs a e) s

/-- HRRZ as a step. -/
def execHrrz (a : AcNum) (e : AddrFields) (s : State) : Host.Outcome State Fault Refusal :=
  runTop (instrWord 0o550 a e) (bodyHrrz a e) s

/-- HRRZI as a step. -/
def execHrrzi (a : AcNum) (e : AddrFields) (s : State) : Host.Outcome State Fault Refusal :=
  runTop (instrWord 0o551 a e) (bodyHrrzi a e) s

/-- HRRZM as a step. -/
def execHrrzm (a : AcNum) (e : AddrFields) (s : State) : Host.Outcome State Fault Refusal :=
  runTop (instrWord 0o552 a e) (bodyHrrzm a e) s

/-- HRRZS as a step. -/
def execHrrzs (a : AcNum) (e : AddrFields) (s : State) : Host.Outcome State Fault Refusal :=
  runTop (instrWord 0o553 a e) (bodyHrrzs a e) s

/-- HLRZ as a step. -/
def execHlrz (a : AcNum) (e : AddrFields) (s : State) : Host.Outcome State Fault Refusal :=
  runTop (instrWord 0o554 a e) (bodyHlrz a e) s

/-- HLRZI as a step. -/
def execHlrzi (a : AcNum) (e : AddrFields) (s : State) : Host.Outcome State Fault Refusal :=
  runTop (instrWord 0o555 a e) (bodyHlrzi a e) s

/-- HLRZM as a step. -/
def execHlrzm (a : AcNum) (e : AddrFields) (s : State) : Host.Outcome State Fault Refusal :=
  runTop (instrWord 0o556 a e) (bodyHlrzm a e) s

/-- HLRZS as a step. -/
def execHlrzs (a : AcNum) (e : AddrFields) (s : State) : Host.Outcome State Fault Refusal :=
  runTop (instrWord 0o557 a e) (bodyHlrzs a e) s

/-- HRRO as a step. -/
def execHrro (a : AcNum) (e : AddrFields) (s : State) : Host.Outcome State Fault Refusal :=
  runTop (instrWord 0o560 a e) (bodyHrro a e) s

/-- HRROI as a step. -/
def execHrroi (a : AcNum) (e : AddrFields) (s : State) : Host.Outcome State Fault Refusal :=
  runTop (instrWord 0o561 a e) (bodyHrroi a e) s

/-- HRROM as a step. -/
def execHrrom (a : AcNum) (e : AddrFields) (s : State) : Host.Outcome State Fault Refusal :=
  runTop (instrWord 0o562 a e) (bodyHrrom a e) s

/-- HRROS as a step. -/
def execHrros (a : AcNum) (e : AddrFields) (s : State) : Host.Outcome State Fault Refusal :=
  runTop (instrWord 0o563 a e) (bodyHrros a e) s

/-- HLRO as a step. -/
def execHlro (a : AcNum) (e : AddrFields) (s : State) : Host.Outcome State Fault Refusal :=
  runTop (instrWord 0o564 a e) (bodyHlro a e) s

/-- HLROI as a step. -/
def execHlroi (a : AcNum) (e : AddrFields) (s : State) : Host.Outcome State Fault Refusal :=
  runTop (instrWord 0o565 a e) (bodyHlroi a e) s

/-- HLROM as a step. -/
def execHlrom (a : AcNum) (e : AddrFields) (s : State) : Host.Outcome State Fault Refusal :=
  runTop (instrWord 0o566 a e) (bodyHlrom a e) s

/-- HLROS as a step. -/
def execHlros (a : AcNum) (e : AddrFields) (s : State) : Host.Outcome State Fault Refusal :=
  runTop (instrWord 0o567 a e) (bodyHlros a e) s

/-- HRRE as a step. -/
def execHrre (a : AcNum) (e : AddrFields) (s : State) : Host.Outcome State Fault Refusal :=
  runTop (instrWord 0o570 a e) (bodyHrre a e) s

/-- HRREI as a step. -/
def execHrrei (a : AcNum) (e : AddrFields) (s : State) : Host.Outcome State Fault Refusal :=
  runTop (instrWord 0o571 a e) (bodyHrrei a e) s

/-- HRREM as a step. -/
def execHrrem (a : AcNum) (e : AddrFields) (s : State) : Host.Outcome State Fault Refusal :=
  runTop (instrWord 0o572 a e) (bodyHrrem a e) s

/-- HRRES as a step. -/
def execHrres (a : AcNum) (e : AddrFields) (s : State) : Host.Outcome State Fault Refusal :=
  runTop (instrWord 0o573 a e) (bodyHrres a e) s

/-- HLRE as a step. -/
def execHlre (a : AcNum) (e : AddrFields) (s : State) : Host.Outcome State Fault Refusal :=
  runTop (instrWord 0o574 a e) (bodyHlre a e) s

/-- HLREI as a step. -/
def execHlrei (a : AcNum) (e : AddrFields) (s : State) : Host.Outcome State Fault Refusal :=
  runTop (instrWord 0o575 a e) (bodyHlrei a e) s

/-- HLREM as a step. -/
def execHlrem (a : AcNum) (e : AddrFields) (s : State) : Host.Outcome State Fault Refusal :=
  runTop (instrWord 0o576 a e) (bodyHlrem a e) s

/-- HLRES as a step. -/
def execHlres (a : AcNum) (e : AddrFields) (s : State) : Host.Outcome State Fault Refusal :=
  runTop (instrWord 0o577 a e) (bodyHlres a e) s

end Sys2Proof.Machine
end

