-- ==== Sys2Proof/Machine/Jump.lean ====
section
/-! DEFINITION. Jumps (spec/43_jumps.md R270 to R281), the other functions of the JRST opcode (R286), and the conditional jumps
(R283). -/

namespace Sys2Proof.Machine

/-- JRST (R271). -/
def bodyJrst (e : AddrFields) : Body := fun f m => do
  let ea ← instrEa .inapplicable e f m
  pure (m.setPc ea.addr)

/-- JRSTF (R272): an MUUO when PC section is not zero; else FLAGS from the last word whose left half entered the EA-calc (log 15,
log 16). -/
def bodyJrstf (e : AddrFields) : Body := fun f m => do
  f.guard .inapplicable
  let (ea, lw) ← m.ea (eaLoop m.st .cur eaFuel (.ifiw e) f.sec (m.st.implementedWord 0o254 2 e))
  if m.st.pcSec ≠ 0 then .error (.trap (.muuo 0o254 2 ea) m)
  else pure (m.restore (flagsField m.st.cfg.flagsLayout lw) ea.addr)

/-- The two words at E, flags word first: the order in memory is XJRSTF_BLOCK (R273). -/
def readFlagsBlock (ea : EA) (m : Mach) : Run (Word × Word) := do
  let w1 ← m.read ea .cur
  let e2 ← m.incRef ea
  let w2 ← m.read e2 .cur
  pure (if m.st.cfg.flagsLayout.pcFirst then (w2, w1) else (w1, w2))

/-- XJRSTF (R273): FLAGS from the word at E, PC from bits 6-35 of the next, or in the order XJRSTF_BLOCK says (log 15). -/
def bodyXjrstf (e : AddrFields) : Body := fun f m => do
  let ea ← instrEa .inapplicable e f m
  let (fw, pw) ← readFlagsBlock ea m
  pure (m.restore (flagsField m.st.cfg.flagsLayout fw) (addrOf pw))

/-- XJRST (R274). -/
def bodyXjrst (e : AddrFields) : Body := fun f m => do
  let ea ← instrEa .inapplicable e f m
  let w ← m.read ea .cur
  pure (m.setPc (addrOf w))

/-- JSP (R276). -/
def bodyJsp (a : AcNum) (e : AddrFields) : Body := fun f m => do
  let ea ← instrEa .inapplicable e f m
  pure ((m.setX a m.st.pcWord).setPc ea.addr)

/-- JSR (R277); the AC field is not used. -/
def bodyJsr (_a : AcNum) (e : AddrFields) : Body := fun f m => do
  let ea ← instrEa .inapplicable e f m
  let m ← m.write ea .cur m.st.pcWord
  let e2 ← m.incRef ea
  pure (m.setPc e2.addr)

/-- JSA (R280): E and E+1 outside PC section is undefined, and refused (log 32). -/
def bodyJsa (a : AcNum) (e : AddrFields) : Body := fun f m => do
  let ea ← instrEa .inapplicable e f m
  let old := m.x a
  if secOf ea.addr ≠ m.st.pcSec ∨ (ea.flag = .glob ∧ offOf ea.addr = 0o777777) then refuse .jsaInterSection
  else
    let m ← m.write ea .cur old
    let m := m.setX a (join (offOf ea.addr) (offOf (m.st.pcPlus 1)))
    pure (m.setPc (inc ea).addr)

/-- JRA (R281). -/
def bodyJra (a : AcNum) (e : AddrFields) : Body := fun f m => do
  let ea ← instrEa .inapplicable e f m
  let v ← m.read ⟨mkAddr m.st.pcSec (lh (m.x a)), .loc⟩ .cur
  pure ((m.setX a v).setPc (mkAddr m.st.pcSec (offOf ea.addr)))

/-- A function of opcode 254 that the memo does not describe (R286), `fn` its AC field: refused, after the EA-calc (log 29). -/
def jrstUndescribed (e : AddrFields) : Body := fun f m => do
  let _ ← instrEa .inapplicable e f m
  refuse .jrstFunctionNotDescribed

/-- The same for a privileged function: in user mode an MUUO (60_exceptions.md R496; log 29). -/
def jrstPrivileged (fn : AcNum) (e : AddrFields) : Body := fun f m => do
  let ea ← instrEa .inapplicable e f m
  if m.st.mode = .user then .error (.trap (.muuo 0o254 fn ea) m) else refuse .jrstFunctionNotDescribed

/-- PORTAL (R286). -/
def bodyPortal (e : AddrFields) : Body := jrstUndescribed e

/-- SFM (R286). -/
def bodySfm (e : AddrFields) : Body := jrstUndescribed e

/-- HALT (R286). -/
def bodyHalt (e : AddrFields) : Body := jrstPrivileged 0o04 e

/-- XJEN: in user mode an MUUO; in exec mode refused (R286), or, where the parameter `xjen` lets it run, what XJRSTF does: "a
monitor returns from an MUUO with XJRSTF or XJEN" (45_uuo.md R349, 60_exceptions.md R494), the interrupt it dismisses left out
(PRESUMED, log 29; log 47). -/
def bodyXjen (e : AddrFields) : Body := fun f m => do
  let ea ← instrEa .inapplicable e f m
  if m.st.mode = .user then .error (.trap (.muuo 0o254 0o06 ea) m)
  else if m.st.cfg.xjen = .refuse then refuse .jrstFunctionNotDescribed
  else
    let (fw, pw) ← readFlagsBlock ea m
    pure (m.restore (flagsField m.st.cfg.flagsLayout fw) (addrOf pw))

/-- XPCW (R286). -/
def bodyXpcw (e : AddrFields) : Body := jrstPrivileged 0o07 e

/-- JRST 10 (R286). -/
def bodyJrst10 (e : AddrFields) : Body := jrstPrivileged 0o10 e

/-- JEN (R286). -/
def bodyJen (e : AddrFields) : Body := jrstPrivileged 0o12 e

/-- JRST as a step. -/
def execJrst (e : AddrFields) (s : State) : Host.Outcome State Fault Refusal :=
  runTop (instrWord 0o254 0o00 e) (bodyJrst e) s

/-- PORTAL as a step. -/
def execPortal (e : AddrFields) (s : State) : Host.Outcome State Fault Refusal :=
  runTop (instrWord 0o254 0o01 e) (bodyPortal e) s

/-- JRSTF as a step. -/
def execJrstf (e : AddrFields) (s : State) : Host.Outcome State Fault Refusal :=
  runTop (instrWord 0o254 0o02 e) (bodyJrstf e) s

/-- HALT as a step. -/
def execHalt (e : AddrFields) (s : State) : Host.Outcome State Fault Refusal :=
  runTop (instrWord 0o254 0o04 e) (bodyHalt e) s

/-- XJRSTF as a step. -/
def execXjrstf (e : AddrFields) (s : State) : Host.Outcome State Fault Refusal :=
  runTop (instrWord 0o254 0o05 e) (bodyXjrstf e) s

/-- XJEN as a step. -/
def execXjen (e : AddrFields) (s : State) : Host.Outcome State Fault Refusal :=
  runTop (instrWord 0o254 0o06 e) (bodyXjen e) s

/-- XPCW as a step. -/
def execXpcw (e : AddrFields) (s : State) : Host.Outcome State Fault Refusal :=
  runTop (instrWord 0o254 0o07 e) (bodyXpcw e) s

/-- JRST10 as a step. -/
def execJrst10 (e : AddrFields) (s : State) : Host.Outcome State Fault Refusal :=
  runTop (instrWord 0o254 0o10 e) (bodyJrst10 e) s

/-- JEN as a step. -/
def execJen (e : AddrFields) (s : State) : Host.Outcome State Fault Refusal :=
  runTop (instrWord 0o254 0o12 e) (bodyJen e) s

/-- SFM as a step. -/
def execSfm (e : AddrFields) (s : State) : Host.Outcome State Fault Refusal :=
  runTop (instrWord 0o254 0o14 e) (bodySfm e) s

/-- XJRST as a step. -/
def execXjrst (e : AddrFields) (s : State) : Host.Outcome State Fault Refusal :=
  runTop (instrWord 0o254 0o15 e) (bodyXjrst e) s

/-- JSR as a step. -/
def execJsr (a : AcNum) (e : AddrFields) (s : State) : Host.Outcome State Fault Refusal :=
  runTop (instrWord 0o264 a e) (bodyJsr a e) s

/-- JSP as a step. -/
def execJsp (a : AcNum) (e : AddrFields) (s : State) : Host.Outcome State Fault Refusal :=
  runTop (instrWord 0o265 a e) (bodyJsp a e) s

/-- JSA as a step. -/
def execJsa (a : AcNum) (e : AddrFields) (s : State) : Host.Outcome State Fault Refusal :=
  runTop (instrWord 0o266 a e) (bodyJsa a e) s

/-- JRA as a step. -/
def execJra (a : AcNum) (e : AddrFields) (s : State) : Host.Outcome State Fault Refusal :=
  runTop (instrWord 0o267 a e) (bodyJra a e) s

end Sys2Proof.Machine
end

