-- ==== Sys2Proof/Machine/Move.lean ====
section
/-! DEFINITION. The instructions whose data step a rule gives (spec/47_general.md R390 to R398, R401, R405, R406), the other
MOVE and DMOVE class instructions (R401, R406), and MAP (R399). -/

namespace Sys2Proof.Machine

/-- MOVE (R395). -/
def bodyMove (a : AcNum) (e : AddrFields) : Body := fun f m => do
  let ea ← instrEa .general e f m
  let v ← m.read ea f.dataCtx
  pure ((m.setX a v).advance 1)

/-- MOVEI (R394). -/
def bodyMovei (a : AcNum) (e : AddrFields) : Body := fun f m => do
  let ea ← instrEa .immediate e f m
  pure ((m.setX a (join 0 (offOf ea.addr))).advance 1)

/-- MOVEM: "writes x[A] to E" (R401). -/
def bodyMovem (a : AcNum) (e : AddrFields) : Body := fun f m => do
  let ea ← instrEa .general e f m
  let m ← m.write ea f.dataCtx (m.x a)
  pure (m.advance 1)

/-- DMOVE (R405): two references, each word stored before the next is read. -/
def bodyDmove (a : AcNum) (e : AddrFields) : Body := fun f m => do
  let ea ← instrEa .general e f m
  let v ← m.read ea f.dataCtx
  let m := m.setX a v
  let e2 ← m.incRef ea
  let v2 ← m.read e2 f.dataCtx
  pure ((m.setX (a + 1) v2).advance 1)

/-- DMOVEM: "writes ACs A, A+1 to E and Inc(E)" (R406); both ACs are read first (DEDUCED from R400, log 39). -/
def bodyDmovem (a : AcNum) (e : AddrFields) : Body := fun f m => do
  let ea ← instrEa .general e f m
  let v1 := m.x a
  let v2 := m.x (a + 1)
  let m ← m.write ea f.dataCtx v1
  let e2 ← m.incRef ea
  let m ← m.write e2 f.dataCtx v2
  pure (m.advance 1)

/-- SETZB (R396). -/
def bodySetzb (a : AcNum) (e : AddrFields) : Body := fun f m => do
  let ea ← instrEa .general e f m
  let m ← m.write ea f.dataCtx 0
  pure ((m.setX a 0).advance 1)

/-- SKIPA (R397). -/
def bodySkipa (a : AcNum) (e : AddrFields) : Body := fun f m => do
  let ea ← instrEa .general e f m
  let v ← m.read ea f.dataCtx
  let m := if a = 0 then m else m.setX a v
  pure (m.advance 2)

/-- EXCH (R398). -/
def bodyExch (a : AcNum) (e : AddrFields) : Body := fun f m => do
  let ea ← instrEa .general e f m
  let v ← m.read ea f.dataCtx
  let m ← m.write ea f.dataCtx (m.x a)
  pure ((m.setX a v).advance 1)

/-- XMOVEI (R391). -/
def bodyXmovei (a : AcNum) (e : AddrFields) : Body := fun f m => do
  let ea ← instrEa .immediate e f m
  pure ((m.setX a (wordOfAddr (convE ea))).advance 1)

/-- XHLLI (R392). -/
def bodyXhlli (a : AcNum) (e : AddrFields) : Body := fun f m => do
  let ea ← instrEa .immediate e f m
  pure ((m.setX a (join ((secOf (convE ea)).setWidth 18) (rh (m.x a)))).advance 1)

/-- MAP (R399, 48_xct_pxct.md R457): Map is asked about E in the context D1 selects; AC A receives its answer, whose form is not in the
source, as a free value (log 36); E is not referenced. -/
def bodyMap (a : AcNum) (e : AddrFields) : Body := fun f m => do
  let ea ← instrEa .general e f m
  pure ((m.setX a (m.st.mapAnswer ea f.dataCtx)).drawn.advance 1)

/-- DMOVN (R406). -/
def bodyDmovn (a : AcNum) (e : AddrFields) : Body := dataOp 0o121 { use := .read, words := 2, ins := [], outs := [0, 1] } a e

/-- DMOVNM (R406). -/
def bodyDmovnm (a : AcNum) (e : AddrFields) : Body := dataOp 0o125 { use := .write, words := 2, ins := [0, 1], outs := [] } a e

/-- MOVES (R401). -/
def bodyMoves (a : AcNum) (e : AddrFields) : Body := dataOp 0o203 shapeSelf a e

/-- MOVS (R401). -/
def bodyMovs (a : AcNum) (e : AddrFields) : Body := dataOp 0o204 shapeBasic a e

/-- MOVSI (R401). -/
def bodyMovsi (a : AcNum) (e : AddrFields) : Body := dataOp 0o205 shapeImm a e

/-- MOVSM (R401). -/
def bodyMovsm (a : AcNum) (e : AddrFields) : Body := dataOp 0o206 shapeMem a e

/-- MOVSS (R401). -/
def bodyMovss (a : AcNum) (e : AddrFields) : Body := dataOp 0o207 shapeSelf a e

/-- MOVN (R401). -/
def bodyMovn (a : AcNum) (e : AddrFields) : Body := dataOp 0o210 shapeBasic a e

/-- MOVNI (R401). -/
def bodyMovni (a : AcNum) (e : AddrFields) : Body := dataOp 0o211 shapeImm a e

/-- MOVNM (R401). -/
def bodyMovnm (a : AcNum) (e : AddrFields) : Body := dataOp 0o212 shapeMem a e

/-- MOVNS (R401). -/
def bodyMovns (a : AcNum) (e : AddrFields) : Body := dataOp 0o213 shapeSelf a e

/-- MOVM (R401). -/
def bodyMovm (a : AcNum) (e : AddrFields) : Body := dataOp 0o214 shapeBasic a e

/-- MOVMI (R401). -/
def bodyMovmi (a : AcNum) (e : AddrFields) : Body := dataOp 0o215 shapeImm a e

/-- MOVMM (R401). -/
def bodyMovmm (a : AcNum) (e : AddrFields) : Body := dataOp 0o216 shapeMem a e

/-- MOVMS (R401). -/
def bodyMovms (a : AcNum) (e : AddrFields) : Body := dataOp 0o217 shapeSelf a e

/-- DMOVE as a step. -/
def execDmove (a : AcNum) (e : AddrFields) (s : State) : Host.Outcome State Fault Refusal :=
  runTop (instrWord 0o120 a e) (bodyDmove a e) s

/-- DMOVN as a step. -/
def execDmovn (a : AcNum) (e : AddrFields) (s : State) : Host.Outcome State Fault Refusal :=
  runTop (instrWord 0o121 a e) (bodyDmovn a e) s

/-- DMOVEM as a step. -/
def execDmovem (a : AcNum) (e : AddrFields) (s : State) : Host.Outcome State Fault Refusal :=
  runTop (instrWord 0o124 a e) (bodyDmovem a e) s

/-- DMOVNM as a step. -/
def execDmovnm (a : AcNum) (e : AddrFields) (s : State) : Host.Outcome State Fault Refusal :=
  runTop (instrWord 0o125 a e) (bodyDmovnm a e) s

/-- MOVE as a step. -/
def execMove (a : AcNum) (e : AddrFields) (s : State) : Host.Outcome State Fault Refusal :=
  runTop (instrWord 0o200 a e) (bodyMove a e) s

/-- MOVEI as a step. -/
def execMovei (a : AcNum) (e : AddrFields) (s : State) : Host.Outcome State Fault Refusal :=
  runTop (instrWord 0o201 a e) (bodyMovei a e) s

/-- MOVEM as a step. -/
def execMovem (a : AcNum) (e : AddrFields) (s : State) : Host.Outcome State Fault Refusal :=
  runTop (instrWord 0o202 a e) (bodyMovem a e) s

/-- MOVES as a step. -/
def execMoves (a : AcNum) (e : AddrFields) (s : State) : Host.Outcome State Fault Refusal :=
  runTop (instrWord 0o203 a e) (bodyMoves a e) s

/-- MOVS as a step. -/
def execMovs (a : AcNum) (e : AddrFields) (s : State) : Host.Outcome State Fault Refusal :=
  runTop (instrWord 0o204 a e) (bodyMovs a e) s

/-- MOVSI as a step. -/
def execMovsi (a : AcNum) (e : AddrFields) (s : State) : Host.Outcome State Fault Refusal :=
  runTop (instrWord 0o205 a e) (bodyMovsi a e) s

/-- MOVSM as a step. -/
def execMovsm (a : AcNum) (e : AddrFields) (s : State) : Host.Outcome State Fault Refusal :=
  runTop (instrWord 0o206 a e) (bodyMovsm a e) s

/-- MOVSS as a step. -/
def execMovss (a : AcNum) (e : AddrFields) (s : State) : Host.Outcome State Fault Refusal :=
  runTop (instrWord 0o207 a e) (bodyMovss a e) s

/-- MOVN as a step. -/
def execMovn (a : AcNum) (e : AddrFields) (s : State) : Host.Outcome State Fault Refusal :=
  runTop (instrWord 0o210 a e) (bodyMovn a e) s

/-- MOVNI as a step. -/
def execMovni (a : AcNum) (e : AddrFields) (s : State) : Host.Outcome State Fault Refusal :=
  runTop (instrWord 0o211 a e) (bodyMovni a e) s

/-- MOVNM as a step. -/
def execMovnm (a : AcNum) (e : AddrFields) (s : State) : Host.Outcome State Fault Refusal :=
  runTop (instrWord 0o212 a e) (bodyMovnm a e) s

/-- MOVNS as a step. -/
def execMovns (a : AcNum) (e : AddrFields) (s : State) : Host.Outcome State Fault Refusal :=
  runTop (instrWord 0o213 a e) (bodyMovns a e) s

/-- MOVM as a step. -/
def execMovm (a : AcNum) (e : AddrFields) (s : State) : Host.Outcome State Fault Refusal :=
  runTop (instrWord 0o214 a e) (bodyMovm a e) s

/-- MOVMI as a step. -/
def execMovmi (a : AcNum) (e : AddrFields) (s : State) : Host.Outcome State Fault Refusal :=
  runTop (instrWord 0o215 a e) (bodyMovmi a e) s

/-- MOVMM as a step. -/
def execMovmm (a : AcNum) (e : AddrFields) (s : State) : Host.Outcome State Fault Refusal :=
  runTop (instrWord 0o216 a e) (bodyMovmm a e) s

/-- MOVMS as a step. -/
def execMovms (a : AcNum) (e : AddrFields) (s : State) : Host.Outcome State Fault Refusal :=
  runTop (instrWord 0o217 a e) (bodyMovms a e) s

/-- EXCH as a step. -/
def execExch (a : AcNum) (e : AddrFields) (s : State) : Host.Outcome State Fault Refusal :=
  runTop (instrWord 0o250 a e) (bodyExch a e) s

/-- MAP as a step. -/
def execMap (a : AcNum) (e : AddrFields) (s : State) : Host.Outcome State Fault Refusal :=
  runTop (instrWord 0o257 a e) (bodyMap a e) s

/-- SKIPA as a step. -/
def execSkipa (a : AcNum) (e : AddrFields) (s : State) : Host.Outcome State Fault Refusal :=
  runTop (instrWord 0o334 a e) (bodySkipa a e) s

/-- SETZB as a step. -/
def execSetzb (a : AcNum) (e : AddrFields) (s : State) : Host.Outcome State Fault Refusal :=
  runTop (instrWord 0o403 a e) (bodySetzb a e) s

/-- XMOVEI as a step. -/
def execXmovei (a : AcNum) (e : AddrFields) (s : State) : Host.Outcome State Fault Refusal :=
  runTop (instrWord 0o415 a e) (bodyXmovei a e) s

/-- XHLLI as a step. -/
def execXhlli (a : AcNum) (e : AddrFields) (s : State) : Host.Outcome State Fault Refusal :=
  runTop (instrWord 0o501 a e) (bodyXhlli a e) s

end Sys2Proof.Machine
end

