-- ==== Sys2Proof/Machine/Shift.lean ====
section
/-! DEFINITION. Shifts and rotates (spec/47_general.md R408): an immediate count, free results (log 6, log 7). -/

namespace Sys2Proof.Machine

/-- ASH (R408). -/
def bodyAsh (a : AcNum) (e : AddrFields) : Body := dataOp 0o240 { shapeImm with px := .inapplicable } a e

/-- ROT (R408). -/
def bodyRot (a : AcNum) (e : AddrFields) : Body := dataOp 0o241 { shapeImm with px := .inapplicable } a e

/-- LSH (R408). -/
def bodyLsh (a : AcNum) (e : AddrFields) : Body := dataOp 0o242 { shapeImm with px := .inapplicable } a e

/-- ASHC (R408). -/
def bodyAshc (a : AcNum) (e : AddrFields) : Body := dataOp 0o244 { shapeImm with ins := [0, 1], outs := [0, 1], px := .inapplicable } a e

/-- ROTC (R408). -/
def bodyRotc (a : AcNum) (e : AddrFields) : Body := dataOp 0o245 { shapeImm with ins := [0, 1], outs := [0, 1], px := .inapplicable } a e

/-- LSHC (R408). -/
def bodyLshc (a : AcNum) (e : AddrFields) : Body := dataOp 0o246 { shapeImm with ins := [0, 1], outs := [0, 1], px := .inapplicable } a e

/-- ASH as a step. -/
def execAsh (a : AcNum) (e : AddrFields) (s : State) : Host.Outcome State Fault Refusal :=
  runTop (instrWord 0o240 a e) (bodyAsh a e) s

/-- ROT as a step. -/
def execRot (a : AcNum) (e : AddrFields) (s : State) : Host.Outcome State Fault Refusal :=
  runTop (instrWord 0o241 a e) (bodyRot a e) s

/-- LSH as a step. -/
def execLsh (a : AcNum) (e : AddrFields) (s : State) : Host.Outcome State Fault Refusal :=
  runTop (instrWord 0o242 a e) (bodyLsh a e) s

/-- ASHC as a step. -/
def execAshc (a : AcNum) (e : AddrFields) (s : State) : Host.Outcome State Fault Refusal :=
  runTop (instrWord 0o244 a e) (bodyAshc a e) s

/-- ROTC as a step. -/
def execRotc (a : AcNum) (e : AddrFields) (s : State) : Host.Outcome State Fault Refusal :=
  runTop (instrWord 0o245 a e) (bodyRotc a e) s

/-- LSHC as a step. -/
def execLshc (a : AcNum) (e : AddrFields) (s : State) : Host.Outcome State Fault Refusal :=
  runTop (instrWord 0o246 a e) (bodyLshc a e) s

end Sys2Proof.Machine
end

