-- ==== Sys2Proof/Machine/Skip.lean ====
section
/-! DEFINITION. CAI, CAM, SKIP, AOS and SOS classes but SKIPA (spec/47_general.md R407): free results and free skips (log 6, log 7, log 42). -/

namespace Sys2Proof.Machine

/-- CAI (R407). -/
def bodyCai (a : AcNum) (e : AddrFields) : Body := dataOp 0o300 { shapeImm with outs := [], skips := true } a e

/-- CAIL (R407). -/
def bodyCail (a : AcNum) (e : AddrFields) : Body := dataOp 0o301 { shapeImm with outs := [], skips := true } a e

/-- CAIE (R407). -/
def bodyCaie (a : AcNum) (e : AddrFields) : Body := dataOp 0o302 { shapeImm with outs := [], skips := true } a e

/-- CAILE (R407). -/
def bodyCaile (a : AcNum) (e : AddrFields) : Body := dataOp 0o303 { shapeImm with outs := [], skips := true } a e

/-- CAIA (R407). -/
def bodyCaia (a : AcNum) (e : AddrFields) : Body := dataOp 0o304 { shapeImm with outs := [], skips := true } a e

/-- CAIGE (R407). -/
def bodyCaige (a : AcNum) (e : AddrFields) : Body := dataOp 0o305 { shapeImm with outs := [], skips := true } a e

/-- CAIN (R407). -/
def bodyCain (a : AcNum) (e : AddrFields) : Body := dataOp 0o306 { shapeImm with outs := [], skips := true } a e

/-- CAIG (R407). -/
def bodyCaig (a : AcNum) (e : AddrFields) : Body := dataOp 0o307 { shapeImm with outs := [], skips := true } a e

/-- CAM (R407). -/
def bodyCam (a : AcNum) (e : AddrFields) : Body := dataOp 0o310 { shapeBasic with outs := [], skips := true } a e

/-- CAML (R407). -/
def bodyCaml (a : AcNum) (e : AddrFields) : Body := dataOp 0o311 { shapeBasic with outs := [], skips := true } a e

/-- CAME (R407). -/
def bodyCame (a : AcNum) (e : AddrFields) : Body := dataOp 0o312 { shapeBasic with outs := [], skips := true } a e

/-- CAMLE (R407). -/
def bodyCamle (a : AcNum) (e : AddrFields) : Body := dataOp 0o313 { shapeBasic with outs := [], skips := true } a e

/-- CAMA (R407). -/
def bodyCama (a : AcNum) (e : AddrFields) : Body := dataOp 0o314 { shapeBasic with outs := [], skips := true } a e

/-- CAMGE (R407). -/
def bodyCamge (a : AcNum) (e : AddrFields) : Body := dataOp 0o315 { shapeBasic with outs := [], skips := true } a e

/-- CAMN (R407). -/
def bodyCamn (a : AcNum) (e : AddrFields) : Body := dataOp 0o316 { shapeBasic with outs := [], skips := true } a e

/-- CAMG (R407). -/
def bodyCamg (a : AcNum) (e : AddrFields) : Body := dataOp 0o317 { shapeBasic with outs := [], skips := true } a e

/-- SKIP (R407). -/
def bodySkip (a : AcNum) (e : AddrFields) : Body := dataOp 0o330 { shapeBasic with unlessAc0 := true, skips := true } a e

/-- SKIPL (R407). -/
def bodySkipl (a : AcNum) (e : AddrFields) : Body := dataOp 0o331 { shapeBasic with unlessAc0 := true, skips := true } a e

/-- SKIPE (R407). -/
def bodySkipe (a : AcNum) (e : AddrFields) : Body := dataOp 0o332 { shapeBasic with unlessAc0 := true, skips := true } a e

/-- SKIPLE (R407). -/
def bodySkiple (a : AcNum) (e : AddrFields) : Body := dataOp 0o333 { shapeBasic with unlessAc0 := true, skips := true } a e

/-- SKIPGE (R407). -/
def bodySkipge (a : AcNum) (e : AddrFields) : Body := dataOp 0o335 { shapeBasic with unlessAc0 := true, skips := true } a e

/-- SKIPN (R407). -/
def bodySkipn (a : AcNum) (e : AddrFields) : Body := dataOp 0o336 { shapeBasic with unlessAc0 := true, skips := true } a e

/-- SKIPG (R407). -/
def bodySkipg (a : AcNum) (e : AddrFields) : Body := dataOp 0o337 { shapeBasic with unlessAc0 := true, skips := true } a e

/-- AOS (R407). -/
def bodyAos (a : AcNum) (e : AddrFields) : Body := dataOp 0o350 { shapeSelf with skips := true } a e

/-- AOSL (R407). -/
def bodyAosl (a : AcNum) (e : AddrFields) : Body := dataOp 0o351 { shapeSelf with skips := true } a e

/-- AOSE (R407). -/
def bodyAose (a : AcNum) (e : AddrFields) : Body := dataOp 0o352 { shapeSelf with skips := true } a e

/-- AOSLE (R407). -/
def bodyAosle (a : AcNum) (e : AddrFields) : Body := dataOp 0o353 { shapeSelf with skips := true } a e

/-- AOSA (R407). -/
def bodyAosa (a : AcNum) (e : AddrFields) : Body := dataOp 0o354 { shapeSelf with skips := true } a e

/-- AOSGE (R407). -/
def bodyAosge (a : AcNum) (e : AddrFields) : Body := dataOp 0o355 { shapeSelf with skips := true } a e

/-- AOSN (R407). -/
def bodyAosn (a : AcNum) (e : AddrFields) : Body := dataOp 0o356 { shapeSelf with skips := true } a e

/-- AOSG (R407). -/
def bodyAosg (a : AcNum) (e : AddrFields) : Body := dataOp 0o357 { shapeSelf with skips := true } a e

/-- SOS (R407). -/
def bodySos (a : AcNum) (e : AddrFields) : Body := dataOp 0o370 { shapeSelf with skips := true } a e

/-- SOSL (R407). -/
def bodySosl (a : AcNum) (e : AddrFields) : Body := dataOp 0o371 { shapeSelf with skips := true } a e

/-- SOSE (R407). -/
def bodySose (a : AcNum) (e : AddrFields) : Body := dataOp 0o372 { shapeSelf with skips := true } a e

/-- SOSLE (R407). -/
def bodySosle (a : AcNum) (e : AddrFields) : Body := dataOp 0o373 { shapeSelf with skips := true } a e

/-- SOSA (R407). -/
def bodySosa (a : AcNum) (e : AddrFields) : Body := dataOp 0o374 { shapeSelf with skips := true } a e

/-- SOSGE (R407). -/
def bodySosge (a : AcNum) (e : AddrFields) : Body := dataOp 0o375 { shapeSelf with skips := true } a e

/-- SOSN (R407). -/
def bodySosn (a : AcNum) (e : AddrFields) : Body := dataOp 0o376 { shapeSelf with skips := true } a e

/-- SOSG (R407). -/
def bodySosg (a : AcNum) (e : AddrFields) : Body := dataOp 0o377 { shapeSelf with skips := true } a e

/-- CAI as a step. -/
def execCai (a : AcNum) (e : AddrFields) (s : State) : Host.Outcome State Fault Refusal :=
  runTop (instrWord 0o300 a e) (bodyCai a e) s

/-- CAIL as a step. -/
def execCail (a : AcNum) (e : AddrFields) (s : State) : Host.Outcome State Fault Refusal :=
  runTop (instrWord 0o301 a e) (bodyCail a e) s

/-- CAIE as a step. -/
def execCaie (a : AcNum) (e : AddrFields) (s : State) : Host.Outcome State Fault Refusal :=
  runTop (instrWord 0o302 a e) (bodyCaie a e) s

/-- CAILE as a step. -/
def execCaile (a : AcNum) (e : AddrFields) (s : State) : Host.Outcome State Fault Refusal :=
  runTop (instrWord 0o303 a e) (bodyCaile a e) s

/-- CAIA as a step. -/
def execCaia (a : AcNum) (e : AddrFields) (s : State) : Host.Outcome State Fault Refusal :=
  runTop (instrWord 0o304 a e) (bodyCaia a e) s

/-- CAIGE as a step. -/
def execCaige (a : AcNum) (e : AddrFields) (s : State) : Host.Outcome State Fault Refusal :=
  runTop (instrWord 0o305 a e) (bodyCaige a e) s

/-- CAIN as a step. -/
def execCain (a : AcNum) (e : AddrFields) (s : State) : Host.Outcome State Fault Refusal :=
  runTop (instrWord 0o306 a e) (bodyCain a e) s

/-- CAIG as a step. -/
def execCaig (a : AcNum) (e : AddrFields) (s : State) : Host.Outcome State Fault Refusal :=
  runTop (instrWord 0o307 a e) (bodyCaig a e) s

/-- CAM as a step. -/
def execCam (a : AcNum) (e : AddrFields) (s : State) : Host.Outcome State Fault Refusal :=
  runTop (instrWord 0o310 a e) (bodyCam a e) s

/-- CAML as a step. -/
def execCaml (a : AcNum) (e : AddrFields) (s : State) : Host.Outcome State Fault Refusal :=
  runTop (instrWord 0o311 a e) (bodyCaml a e) s

/-- CAME as a step. -/
def execCame (a : AcNum) (e : AddrFields) (s : State) : Host.Outcome State Fault Refusal :=
  runTop (instrWord 0o312 a e) (bodyCame a e) s

/-- CAMLE as a step. -/
def execCamle (a : AcNum) (e : AddrFields) (s : State) : Host.Outcome State Fault Refusal :=
  runTop (instrWord 0o313 a e) (bodyCamle a e) s

/-- CAMA as a step. -/
def execCama (a : AcNum) (e : AddrFields) (s : State) : Host.Outcome State Fault Refusal :=
  runTop (instrWord 0o314 a e) (bodyCama a e) s

/-- CAMGE as a step. -/
def execCamge (a : AcNum) (e : AddrFields) (s : State) : Host.Outcome State Fault Refusal :=
  runTop (instrWord 0o315 a e) (bodyCamge a e) s

/-- CAMN as a step. -/
def execCamn (a : AcNum) (e : AddrFields) (s : State) : Host.Outcome State Fault Refusal :=
  runTop (instrWord 0o316 a e) (bodyCamn a e) s

/-- CAMG as a step. -/
def execCamg (a : AcNum) (e : AddrFields) (s : State) : Host.Outcome State Fault Refusal :=
  runTop (instrWord 0o317 a e) (bodyCamg a e) s

/-- SKIP as a step. -/
def execSkip (a : AcNum) (e : AddrFields) (s : State) : Host.Outcome State Fault Refusal :=
  runTop (instrWord 0o330 a e) (bodySkip a e) s

/-- SKIPL as a step. -/
def execSkipl (a : AcNum) (e : AddrFields) (s : State) : Host.Outcome State Fault Refusal :=
  runTop (instrWord 0o331 a e) (bodySkipl a e) s

/-- SKIPE as a step. -/
def execSkipe (a : AcNum) (e : AddrFields) (s : State) : Host.Outcome State Fault Refusal :=
  runTop (instrWord 0o332 a e) (bodySkipe a e) s

/-- SKIPLE as a step. -/
def execSkiple (a : AcNum) (e : AddrFields) (s : State) : Host.Outcome State Fault Refusal :=
  runTop (instrWord 0o333 a e) (bodySkiple a e) s

/-- SKIPGE as a step. -/
def execSkipge (a : AcNum) (e : AddrFields) (s : State) : Host.Outcome State Fault Refusal :=
  runTop (instrWord 0o335 a e) (bodySkipge a e) s

/-- SKIPN as a step. -/
def execSkipn (a : AcNum) (e : AddrFields) (s : State) : Host.Outcome State Fault Refusal :=
  runTop (instrWord 0o336 a e) (bodySkipn a e) s

/-- SKIPG as a step. -/
def execSkipg (a : AcNum) (e : AddrFields) (s : State) : Host.Outcome State Fault Refusal :=
  runTop (instrWord 0o337 a e) (bodySkipg a e) s

/-- AOS as a step. -/
def execAos (a : AcNum) (e : AddrFields) (s : State) : Host.Outcome State Fault Refusal :=
  runTop (instrWord 0o350 a e) (bodyAos a e) s

/-- AOSL as a step. -/
def execAosl (a : AcNum) (e : AddrFields) (s : State) : Host.Outcome State Fault Refusal :=
  runTop (instrWord 0o351 a e) (bodyAosl a e) s

/-- AOSE as a step. -/
def execAose (a : AcNum) (e : AddrFields) (s : State) : Host.Outcome State Fault Refusal :=
  runTop (instrWord 0o352 a e) (bodyAose a e) s

/-- AOSLE as a step. -/
def execAosle (a : AcNum) (e : AddrFields) (s : State) : Host.Outcome State Fault Refusal :=
  runTop (instrWord 0o353 a e) (bodyAosle a e) s

/-- AOSA as a step. -/
def execAosa (a : AcNum) (e : AddrFields) (s : State) : Host.Outcome State Fault Refusal :=
  runTop (instrWord 0o354 a e) (bodyAosa a e) s

/-- AOSGE as a step. -/
def execAosge (a : AcNum) (e : AddrFields) (s : State) : Host.Outcome State Fault Refusal :=
  runTop (instrWord 0o355 a e) (bodyAosge a e) s

/-- AOSN as a step. -/
def execAosn (a : AcNum) (e : AddrFields) (s : State) : Host.Outcome State Fault Refusal :=
  runTop (instrWord 0o356 a e) (bodyAosn a e) s

/-- AOSG as a step. -/
def execAosg (a : AcNum) (e : AddrFields) (s : State) : Host.Outcome State Fault Refusal :=
  runTop (instrWord 0o357 a e) (bodyAosg a e) s

/-- SOS as a step. -/
def execSos (a : AcNum) (e : AddrFields) (s : State) : Host.Outcome State Fault Refusal :=
  runTop (instrWord 0o370 a e) (bodySos a e) s

/-- SOSL as a step. -/
def execSosl (a : AcNum) (e : AddrFields) (s : State) : Host.Outcome State Fault Refusal :=
  runTop (instrWord 0o371 a e) (bodySosl a e) s

/-- SOSE as a step. -/
def execSose (a : AcNum) (e : AddrFields) (s : State) : Host.Outcome State Fault Refusal :=
  runTop (instrWord 0o372 a e) (bodySose a e) s

/-- SOSLE as a step. -/
def execSosle (a : AcNum) (e : AddrFields) (s : State) : Host.Outcome State Fault Refusal :=
  runTop (instrWord 0o373 a e) (bodySosle a e) s

/-- SOSA as a step. -/
def execSosa (a : AcNum) (e : AddrFields) (s : State) : Host.Outcome State Fault Refusal :=
  runTop (instrWord 0o374 a e) (bodySosa a e) s

/-- SOSGE as a step. -/
def execSosge (a : AcNum) (e : AddrFields) (s : State) : Host.Outcome State Fault Refusal :=
  runTop (instrWord 0o375 a e) (bodySosge a e) s

/-- SOSN as a step. -/
def execSosn (a : AcNum) (e : AddrFields) (s : State) : Host.Outcome State Fault Refusal :=
  runTop (instrWord 0o376 a e) (bodySosn a e) s

/-- SOSG as a step. -/
def execSosg (a : AcNum) (e : AddrFields) (s : State) : Host.Outcome State Fault Refusal :=
  runTop (instrWord 0o377 a e) (bodySosg a e) s

end Sys2Proof.Machine
end

