-- ==== Sys2Proof/Machine/Stack.lean ====
section
/-! DEFINITION. The stack instructions (spec/44_stack.md R310 to R323). -/

namespace Sys2Proof.Machine

/-- The pointer in AC `a` stepped up (R313, R318), with the stack address of the stepped pointer (R312). A global pointer at
7777,,777777 is refused (R313), or steps to a free address (log 13, log 47). -/
def pushPointer (a : AcNum) (m : Mach) : Run (Word × EA) := do
  let sp := m.x a
  let g := spGlobal m.st.pcSec sp
  stackCheck m g sp 0o777777
  m.ruling (g && atTop ⟨addrOf sp, .glob⟩) .addressTop
  pure (spInc g sp, stackAddr m.st.pcSec g (spInc g sp))

/-- Stores `v` on the stack whose pointer is in AC `a`, stepped first: the word is located, then the AC receives the stepped pointer,
then the word is stored, so that a page fail of the store finds the AC as it was (R315, R317; 60_exceptions.md R489). -/
def pushWord (a : AcNum) (v : Word) (m : Mach) : Run Mach := do
  let (sp, top) ← pushPointer a m
  let l ← m.locate top .cur .write
  pure ((m.setX a sp).put l v)

/-- The word on top of the stack whose pointer is in AC `a` (R312). -/
def topOfStack (a : AcNum) (m : Mach) : Run Word :=
  m.read (stackAddr m.st.pcSec (spGlobal m.st.pcSec (m.x a)) (m.x a)) .cur

/-- Steps the pointer `sp` down into AC `a` (R314, R318). -/
def popPointer (a : AcNum) (sp : Word) (m : Mach) : Run Mach := do
  let g := spGlobal m.st.pcSec sp
  stackCheck m g sp 0
  pure (m.setX a (spDec g sp))

/-- PUSH (R315). -/
def bodyPush (a : AcNum) (e : AddrFields) : Body := fun f m => do
  let ea ← instrEa .stack e f m
  let v ← m.read ea f.dataCtx
  let m ← pushWord a v m
  pure (m.advance 1)

/-- POP (R316). -/
def bodyPop (a : AcNum) (e : AddrFields) : Body := fun f m => do
  let ea ← instrEa .stack e f m
  let sp := m.x a
  let v ← topOfStack a m
  let m ← m.write ea f.dataCtx v
  let m ← popPointer a sp m
  pure (m.advance 1)

/-- PUSHJ (R317). -/
def bodyPushj (a : AcNum) (e : AddrFields) : Body := fun f m => do
  let ea ← instrEa .inapplicable e f m
  let m ← pushWord a m.st.pcWord m
  pure (m.setPc ea.addr)

/-- POPJ (R319). -/
def bodyPopj (a : AcNum) (e : AddrFields) : Body := fun f m => do
  let _ ← instrEa .inapplicable e f m
  let w ← topOfStack a m
  let m ← popPointer a (m.x a) m
  pure (m.setPc (if m.st.pcSec ≠ 0 then addrOf w else mkAddr 0 (rh w)))

/-- ADJSP (R320): `off(E)` added to both halves of a local pointer, or sign-extended to a global one; flags a free value (PRESUMED, log
34). -/
def bodyAdjsp (a : AcNum) (e : AddrFields) : Body := fun f m => do
  let ea ← instrEa .inapplicable e f m
  let n := offOf ea.addr
  let sp := m.x a
  let sp' := if spGlobal m.st.pcSec sp then withAddr sp (addrOf sp + sext30 n) else join (lh sp + n) (rh sp + n)
  pure (((m.setX a sp').dataFlags 0o105 [sp, join 0 n]).advance 1)

/-- ADJSP as a step. -/
def execAdjsp (a : AcNum) (e : AddrFields) (s : State) : Host.Outcome State Fault Refusal :=
  runTop (instrWord 0o105 a e) (bodyAdjsp a e) s

/-- PUSHJ as a step. -/
def execPushj (a : AcNum) (e : AddrFields) (s : State) : Host.Outcome State Fault Refusal :=
  runTop (instrWord 0o260 a e) (bodyPushj a e) s

/-- PUSH as a step. -/
def execPush (a : AcNum) (e : AddrFields) (s : State) : Host.Outcome State Fault Refusal :=
  runTop (instrWord 0o261 a e) (bodyPush a e) s

/-- POP as a step. -/
def execPop (a : AcNum) (e : AddrFields) (s : State) : Host.Outcome State Fault Refusal :=
  runTop (instrWord 0o262 a e) (bodyPop a e) s

/-- POPJ as a step. -/
def execPopj (a : AcNum) (e : AddrFields) (s : State) : Host.Outcome State Fault Refusal :=
  runTop (instrWord 0o263 a e) (bodyPopj a e) s

end Sys2Proof.Machine
end

