-- ==== Sys2Proof/Machine/System.lean ====
section
/-! DEFINITION. MUUOs (spec/45_uuo.md R346, R347; 60_exceptions.md R482), JSYS (43_jumps.md R287), and the input-output instructions
(47_general.md R409). -/

namespace Sys2Proof.Machine

/-- An instruction that traps to the monitor, after its EA-calc (R346, R347, R492). -/
def muuoOp (op : BitVec 9) (a : AcNum) (e : AddrFields) : Body := fun f m => do
  let ea ← instrEa .inapplicable e f m
  .error (.trap (.muuo op a ea) m)

/-- JSYS, treated as an MUUO (R287; log 38). -/
def bodyJsys (a : AcNum) (e : AddrFields) : Body := muuoOp 0o104 a e

/-- Opcodes 040 to 077 (R346). -/
def bodyMuuo040 (lo : BitVec 5) (a : AcNum) (e : AddrFields) : Body := muuoOp ((1 : BitVec 4) ++ lo) a e

/-- Opcodes 700 to 777 (R409): in user mode an MUUO (60_exceptions.md R496), in exec mode refused (log 29). -/
def bodyIo (r : BitVec 33) : Body := fun f m => do
  let w : Word := (7 : BitVec 3) ++ r
  let ea ← instrEa .inapplicable (fieldsOf w) f m
  if m.st.mode = .user then .error (.trap (.muuo (opField w) (acField w) ea) m) else refuse .ioNotDescribed

/-- MUUO 000 (R346). -/
def bodyMuuo000 (a : AcNum) (e : AddrFields) : Body := muuoOp 0o000 a e

/-- MUUO 100 (R346). -/
def bodyMuuo100 (a : AcNum) (e : AddrFields) : Body := muuoOp 0o100 a e

/-- MUUO 101 (R346). -/
def bodyMuuo101 (a : AcNum) (e : AddrFields) : Body := muuoOp 0o101 a e

/-- MUUO 102 (R346). -/
def bodyMuuo102 (a : AcNum) (e : AddrFields) : Body := muuoOp 0o102 a e

/-- MUUO 103 (R346). -/
def bodyMuuo103 (a : AcNum) (e : AddrFields) : Body := muuoOp 0o103 a e

/-- MUUO 106 (R346). -/
def bodyMuuo106 (a : AcNum) (e : AddrFields) : Body := muuoOp 0o106 a e

/-- MUUO 107 (R346). -/
def bodyMuuo107 (a : AcNum) (e : AddrFields) : Body := muuoOp 0o107 a e

/-- MUUO 247 (R346). -/
def bodyMuuo247 (a : AcNum) (e : AddrFields) : Body := muuoOp 0o247 a e

/-- MUUO 141 (R346). -/
def bodyMuuo141 (a : AcNum) (e : AddrFields) : Body := muuoOp 0o141 a e

/-- MUUO 151 (R346). -/
def bodyMuuo151 (a : AcNum) (e : AddrFields) : Body := muuoOp 0o151 a e

/-- MUUO 161 (R346). -/
def bodyMuuo161 (a : AcNum) (e : AddrFields) : Body := muuoOp 0o161 a e

/-- MUUO 171 (R346). -/
def bodyMuuo171 (a : AcNum) (e : AddrFields) : Body := muuoOp 0o171 a e

/-- JRST function 3 (R286). -/
def bodyMuuoJrst03 (e : AddrFields) : Body := muuoOp 0o254 0o03 e

/-- JRST function 11 (R286). -/
def bodyMuuoJrst11 (e : AddrFields) : Body := muuoOp 0o254 0o11 e

/-- JRST function 13 (R286). -/
def bodyMuuoJrst13 (e : AddrFields) : Body := muuoOp 0o254 0o13 e

/-- JRST function 16 (R286). -/
def bodyMuuoJrst16 (e : AddrFields) : Body := muuoOp 0o254 0o16 e

/-- JRST function 17 (R286). -/
def bodyMuuoJrst17 (e : AddrFields) : Body := muuoOp 0o254 0o17 e

/-- MUUO as a step. -/
def execMuuo000 (a : AcNum) (e : AddrFields) (s : State) : Host.Outcome State Fault Refusal :=
  runTop (instrWord 0o000 a e) (bodyMuuo000 a e) s

/-- MUUO as a step. -/
def execMuuo040 (lo : BitVec 5) (a : AcNum) (e : AddrFields) (s : State) : Host.Outcome State Fault Refusal :=
  runTop (instrWord ((1 : BitVec 4) ++ lo) a e) (bodyMuuo040 lo a e) s

/-- MUUO as a step. -/
def execMuuo100 (a : AcNum) (e : AddrFields) (s : State) : Host.Outcome State Fault Refusal :=
  runTop (instrWord 0o100 a e) (bodyMuuo100 a e) s

/-- MUUO as a step. -/
def execMuuo101 (a : AcNum) (e : AddrFields) (s : State) : Host.Outcome State Fault Refusal :=
  runTop (instrWord 0o101 a e) (bodyMuuo101 a e) s

/-- MUUO as a step. -/
def execMuuo102 (a : AcNum) (e : AddrFields) (s : State) : Host.Outcome State Fault Refusal :=
  runTop (instrWord 0o102 a e) (bodyMuuo102 a e) s

/-- MUUO as a step. -/
def execMuuo103 (a : AcNum) (e : AddrFields) (s : State) : Host.Outcome State Fault Refusal :=
  runTop (instrWord 0o103 a e) (bodyMuuo103 a e) s

/-- MUUO as a step. -/
def execMuuo106 (a : AcNum) (e : AddrFields) (s : State) : Host.Outcome State Fault Refusal :=
  runTop (instrWord 0o106 a e) (bodyMuuo106 a e) s

/-- MUUO as a step. -/
def execMuuo107 (a : AcNum) (e : AddrFields) (s : State) : Host.Outcome State Fault Refusal :=
  runTop (instrWord 0o107 a e) (bodyMuuo107 a e) s

/-- MUUO as a step. -/
def execMuuo247 (a : AcNum) (e : AddrFields) (s : State) : Host.Outcome State Fault Refusal :=
  runTop (instrWord 0o247 a e) (bodyMuuo247 a e) s

/-- JSYS as a step. -/
def execJsys (a : AcNum) (e : AddrFields) (s : State) : Host.Outcome State Fault Refusal :=
  runTop (instrWord 0o104 a e) (bodyJsys a e) s

/-- MUUO as a step. -/
def execMuuo141 (a : AcNum) (e : AddrFields) (s : State) : Host.Outcome State Fault Refusal :=
  runTop (instrWord 0o141 a e) (bodyMuuo141 a e) s

/-- MUUO as a step. -/
def execMuuo151 (a : AcNum) (e : AddrFields) (s : State) : Host.Outcome State Fault Refusal :=
  runTop (instrWord 0o151 a e) (bodyMuuo151 a e) s

/-- MUUO as a step. -/
def execMuuo161 (a : AcNum) (e : AddrFields) (s : State) : Host.Outcome State Fault Refusal :=
  runTop (instrWord 0o161 a e) (bodyMuuo161 a e) s

/-- MUUO as a step. -/
def execMuuo171 (a : AcNum) (e : AddrFields) (s : State) : Host.Outcome State Fault Refusal :=
  runTop (instrWord 0o171 a e) (bodyMuuo171 a e) s

/-- MUUO as a step. -/
def execMuuoJrst03 (e : AddrFields) (s : State) : Host.Outcome State Fault Refusal :=
  runTop (instrWord 0o254 0o03 e) (bodyMuuoJrst03 e) s

/-- MUUO as a step. -/
def execMuuoJrst11 (e : AddrFields) (s : State) : Host.Outcome State Fault Refusal :=
  runTop (instrWord 0o254 0o11 e) (bodyMuuoJrst11 e) s

/-- MUUO as a step. -/
def execMuuoJrst13 (e : AddrFields) (s : State) : Host.Outcome State Fault Refusal :=
  runTop (instrWord 0o254 0o13 e) (bodyMuuoJrst13 e) s

/-- MUUO as a step. -/
def execMuuoJrst16 (e : AddrFields) (s : State) : Host.Outcome State Fault Refusal :=
  runTop (instrWord 0o254 0o16 e) (bodyMuuoJrst16 e) s

/-- MUUO as a step. -/
def execMuuoJrst17 (e : AddrFields) (s : State) : Host.Outcome State Fault Refusal :=
  runTop (instrWord 0o254 0o17 e) (bodyMuuoJrst17 e) s

/-- IO as a step. -/
def execIo (r : BitVec 33) (s : State) : Host.Outcome State Fault Refusal :=
  runTop ((7 : BitVec 3) ++ r) (bodyIo r) s

end Sys2Proof.Machine
end

