-- ==== Sys2Proof/Machine/Test.lean ====
section
/-! DEFINITION. The logical test class (spec/47_general.md R407): the references of R400, free results and free skips (log 6, log 7, log 42). -/

namespace Sys2Proof.Machine

/-- TRN (R407). -/
def bodyTrn (a : AcNum) (e : AddrFields) : Body := dataOp 0o600 { shapeImm with skips := true } a e

/-- TLN (R407). -/
def bodyTln (a : AcNum) (e : AddrFields) : Body := dataOp 0o601 { shapeImm with skips := true } a e

/-- TRNE (R407). -/
def bodyTrne (a : AcNum) (e : AddrFields) : Body := dataOp 0o602 { shapeImm with skips := true } a e

/-- TLNE (R407). -/
def bodyTlne (a : AcNum) (e : AddrFields) : Body := dataOp 0o603 { shapeImm with skips := true } a e

/-- TRNA (R407). -/
def bodyTrna (a : AcNum) (e : AddrFields) : Body := dataOp 0o604 { shapeImm with skips := true } a e

/-- TLNA (R407). -/
def bodyTlna (a : AcNum) (e : AddrFields) : Body := dataOp 0o605 { shapeImm with skips := true } a e

/-- TRNN (R407). -/
def bodyTrnn (a : AcNum) (e : AddrFields) : Body := dataOp 0o606 { shapeImm with skips := true } a e

/-- TLNN (R407). -/
def bodyTlnn (a : AcNum) (e : AddrFields) : Body := dataOp 0o607 { shapeImm with skips := true } a e

/-- TDN (R407). -/
def bodyTdn (a : AcNum) (e : AddrFields) : Body := dataOp 0o610 { shapeBasic with skips := true } a e

/-- TSN (R407). -/
def bodyTsn (a : AcNum) (e : AddrFields) : Body := dataOp 0o611 { shapeBasic with skips := true } a e

/-- TDNE (R407). -/
def bodyTdne (a : AcNum) (e : AddrFields) : Body := dataOp 0o612 { shapeBasic with skips := true } a e

/-- TSNE (R407). -/
def bodyTsne (a : AcNum) (e : AddrFields) : Body := dataOp 0o613 { shapeBasic with skips := true } a e

/-- TDNA (R407). -/
def bodyTdna (a : AcNum) (e : AddrFields) : Body := dataOp 0o614 { shapeBasic with skips := true } a e

/-- TSNA (R407). -/
def bodyTsna (a : AcNum) (e : AddrFields) : Body := dataOp 0o615 { shapeBasic with skips := true } a e

/-- TDNN (R407). -/
def bodyTdnn (a : AcNum) (e : AddrFields) : Body := dataOp 0o616 { shapeBasic with skips := true } a e

/-- TSNN (R407). -/
def bodyTsnn (a : AcNum) (e : AddrFields) : Body := dataOp 0o617 { shapeBasic with skips := true } a e

/-- TRZ (R407). -/
def bodyTrz (a : AcNum) (e : AddrFields) : Body := dataOp 0o620 { shapeImm with skips := true } a e

/-- TLZ (R407). -/
def bodyTlz (a : AcNum) (e : AddrFields) : Body := dataOp 0o621 { shapeImm with skips := true } a e

/-- TRZE (R407). -/
def bodyTrze (a : AcNum) (e : AddrFields) : Body := dataOp 0o622 { shapeImm with skips := true } a e

/-- TLZE (R407). -/
def bodyTlze (a : AcNum) (e : AddrFields) : Body := dataOp 0o623 { shapeImm with skips := true } a e

/-- TRZA (R407). -/
def bodyTrza (a : AcNum) (e : AddrFields) : Body := dataOp 0o624 { shapeImm with skips := true } a e

/-- TLZA (R407). -/
def bodyTlza (a : AcNum) (e : AddrFields) : Body := dataOp 0o625 { shapeImm with skips := true } a e

/-- TRZN (R407). -/
def bodyTrzn (a : AcNum) (e : AddrFields) : Body := dataOp 0o626 { shapeImm with skips := true } a e

/-- TLZN (R407). -/
def bodyTlzn (a : AcNum) (e : AddrFields) : Body := dataOp 0o627 { shapeImm with skips := true } a e

/-- TDZ (R407). -/
def bodyTdz (a : AcNum) (e : AddrFields) : Body := dataOp 0o630 { shapeBasic with skips := true } a e

/-- TSZ (R407). -/
def bodyTsz (a : AcNum) (e : AddrFields) : Body := dataOp 0o631 { shapeBasic with skips := true } a e

/-- TDZE (R407). -/
def bodyTdze (a : AcNum) (e : AddrFields) : Body := dataOp 0o632 { shapeBasic with skips := true } a e

/-- TSZE (R407). -/
def bodyTsze (a : AcNum) (e : AddrFields) : Body := dataOp 0o633 { shapeBasic with skips := true } a e

/-- TDZA (R407). -/
def bodyTdza (a : AcNum) (e : AddrFields) : Body := dataOp 0o634 { shapeBasic with skips := true } a e

/-- TSZA (R407). -/
def bodyTsza (a : AcNum) (e : AddrFields) : Body := dataOp 0o635 { shapeBasic with skips := true } a e

/-- TDZN (R407). -/
def bodyTdzn (a : AcNum) (e : AddrFields) : Body := dataOp 0o636 { shapeBasic with skips := true } a e

/-- TSZN (R407). -/
def bodyTszn (a : AcNum) (e : AddrFields) : Body := dataOp 0o637 { shapeBasic with skips := true } a e

/-- TRC (R407). -/
def bodyTrc (a : AcNum) (e : AddrFields) : Body := dataOp 0o640 { shapeImm with skips := true } a e

/-- TLC (R407). -/
def bodyTlc (a : AcNum) (e : AddrFields) : Body := dataOp 0o641 { shapeImm with skips := true } a e

/-- TRCE (R407). -/
def bodyTrce (a : AcNum) (e : AddrFields) : Body := dataOp 0o642 { shapeImm with skips := true } a e

/-- TLCE (R407). -/
def bodyTlce (a : AcNum) (e : AddrFields) : Body := dataOp 0o643 { shapeImm with skips := true } a e

/-- TRCA (R407). -/
def bodyTrca (a : AcNum) (e : AddrFields) : Body := dataOp 0o644 { shapeImm with skips := true } a e

/-- TLCA (R407). -/
def bodyTlca (a : AcNum) (e : AddrFields) : Body := dataOp 0o645 { shapeImm with skips := true } a e

/-- TRCN (R407). -/
def bodyTrcn (a : AcNum) (e : AddrFields) : Body := dataOp 0o646 { shapeImm with skips := true } a e

/-- TLCN (R407). -/
def bodyTlcn (a : AcNum) (e : AddrFields) : Body := dataOp 0o647 { shapeImm with skips := true } a e

/-- TDC (R407). -/
def bodyTdc (a : AcNum) (e : AddrFields) : Body := dataOp 0o650 { shapeBasic with skips := true } a e

/-- TSC (R407). -/
def bodyTsc (a : AcNum) (e : AddrFields) : Body := dataOp 0o651 { shapeBasic with skips := true } a e

/-- TDCE (R407). -/
def bodyTdce (a : AcNum) (e : AddrFields) : Body := dataOp 0o652 { shapeBasic with skips := true } a e

/-- TSCE (R407). -/
def bodyTsce (a : AcNum) (e : AddrFields) : Body := dataOp 0o653 { shapeBasic with skips := true } a e

/-- TDCA (R407). -/
def bodyTdca (a : AcNum) (e : AddrFields) : Body := dataOp 0o654 { shapeBasic with skips := true } a e

/-- TSCA (R407). -/
def bodyTsca (a : AcNum) (e : AddrFields) : Body := dataOp 0o655 { shapeBasic with skips := true } a e

/-- TDCN (R407). -/
def bodyTdcn (a : AcNum) (e : AddrFields) : Body := dataOp 0o656 { shapeBasic with skips := true } a e

/-- TSCN (R407). -/
def bodyTscn (a : AcNum) (e : AddrFields) : Body := dataOp 0o657 { shapeBasic with skips := true } a e

/-- TRO (R407). -/
def bodyTro (a : AcNum) (e : AddrFields) : Body := dataOp 0o660 { shapeImm with skips := true } a e

/-- TLO (R407). -/
def bodyTlo (a : AcNum) (e : AddrFields) : Body := dataOp 0o661 { shapeImm with skips := true } a e

/-- TROE (R407). -/
def bodyTroe (a : AcNum) (e : AddrFields) : Body := dataOp 0o662 { shapeImm with skips := true } a e

/-- TLOE (R407). -/
def bodyTloe (a : AcNum) (e : AddrFields) : Body := dataOp 0o663 { shapeImm with skips := true } a e

/-- TROA (R407). -/
def bodyTroa (a : AcNum) (e : AddrFields) : Body := dataOp 0o664 { shapeImm with skips := true } a e

/-- TLOA (R407). -/
def bodyTloa (a : AcNum) (e : AddrFields) : Body := dataOp 0o665 { shapeImm with skips := true } a e

/-- TRON (R407). -/
def bodyTron (a : AcNum) (e : AddrFields) : Body := dataOp 0o666 { shapeImm with skips := true } a e

/-- TLON (R407). -/
def bodyTlon (a : AcNum) (e : AddrFields) : Body := dataOp 0o667 { shapeImm with skips := true } a e

/-- TDO (R407). -/
def bodyTdo (a : AcNum) (e : AddrFields) : Body := dataOp 0o670 { shapeBasic with skips := true } a e

/-- TSO (R407). -/
def bodyTso (a : AcNum) (e : AddrFields) : Body := dataOp 0o671 { shapeBasic with skips := true } a e

/-- TDOE (R407). -/
def bodyTdoe (a : AcNum) (e : AddrFields) : Body := dataOp 0o672 { shapeBasic with skips := true } a e

/-- TSOE (R407). -/
def bodyTsoe (a : AcNum) (e : AddrFields) : Body := dataOp 0o673 { shapeBasic with skips := true } a e

/-- TDOA (R407). -/
def bodyTdoa (a : AcNum) (e : AddrFields) : Body := dataOp 0o674 { shapeBasic with skips := true } a e

/-- TSOA (R407). -/
def bodyTsoa (a : AcNum) (e : AddrFields) : Body := dataOp 0o675 { shapeBasic with skips := true } a e

/-- TDON (R407). -/
def bodyTdon (a : AcNum) (e : AddrFields) : Body := dataOp 0o676 { shapeBasic with skips := true } a e

/-- TSON (R407). -/
def bodyTson (a : AcNum) (e : AddrFields) : Body := dataOp 0o677 { shapeBasic with skips := true } a e

/-- TRN as a step. -/
def execTrn (a : AcNum) (e : AddrFields) (s : State) : Host.Outcome State Fault Refusal :=
  runTop (instrWord 0o600 a e) (bodyTrn a e) s

/-- TLN as a step. -/
def execTln (a : AcNum) (e : AddrFields) (s : State) : Host.Outcome State Fault Refusal :=
  runTop (instrWord 0o601 a e) (bodyTln a e) s

/-- TRNE as a step. -/
def execTrne (a : AcNum) (e : AddrFields) (s : State) : Host.Outcome State Fault Refusal :=
  runTop (instrWord 0o602 a e) (bodyTrne a e) s

/-- TLNE as a step. -/
def execTlne (a : AcNum) (e : AddrFields) (s : State) : Host.Outcome State Fault Refusal :=
  runTop (instrWord 0o603 a e) (bodyTlne a e) s

/-- TRNA as a step. -/
def execTrna (a : AcNum) (e : AddrFields) (s : State) : Host.Outcome State Fault Refusal :=
  runTop (instrWord 0o604 a e) (bodyTrna a e) s

/-- TLNA as a step. -/
def execTlna (a : AcNum) (e : AddrFields) (s : State) : Host.Outcome State Fault Refusal :=
  runTop (instrWord 0o605 a e) (bodyTlna a e) s

/-- TRNN as a step. -/
def execTrnn (a : AcNum) (e : AddrFields) (s : State) : Host.Outcome State Fault Refusal :=
  runTop (instrWord 0o606 a e) (bodyTrnn a e) s

/-- TLNN as a step. -/
def execTlnn (a : AcNum) (e : AddrFields) (s : State) : Host.Outcome State Fault Refusal :=
  runTop (instrWord 0o607 a e) (bodyTlnn a e) s

/-- TDN as a step. -/
def execTdn (a : AcNum) (e : AddrFields) (s : State) : Host.Outcome State Fault Refusal :=
  runTop (instrWord 0o610 a e) (bodyTdn a e) s

/-- TSN as a step. -/
def execTsn (a : AcNum) (e : AddrFields) (s : State) : Host.Outcome State Fault Refusal :=
  runTop (instrWord 0o611 a e) (bodyTsn a e) s

/-- TDNE as a step. -/
def execTdne (a : AcNum) (e : AddrFields) (s : State) : Host.Outcome State Fault Refusal :=
  runTop (instrWord 0o612 a e) (bodyTdne a e) s

/-- TSNE as a step. -/
def execTsne (a : AcNum) (e : AddrFields) (s : State) : Host.Outcome State Fault Refusal :=
  runTop (instrWord 0o613 a e) (bodyTsne a e) s

/-- TDNA as a step. -/
def execTdna (a : AcNum) (e : AddrFields) (s : State) : Host.Outcome State Fault Refusal :=
  runTop (instrWord 0o614 a e) (bodyTdna a e) s

/-- TSNA as a step. -/
def execTsna (a : AcNum) (e : AddrFields) (s : State) : Host.Outcome State Fault Refusal :=
  runTop (instrWord 0o615 a e) (bodyTsna a e) s

/-- TDNN as a step. -/
def execTdnn (a : AcNum) (e : AddrFields) (s : State) : Host.Outcome State Fault Refusal :=
  runTop (instrWord 0o616 a e) (bodyTdnn a e) s

/-- TSNN as a step. -/
def execTsnn (a : AcNum) (e : AddrFields) (s : State) : Host.Outcome State Fault Refusal :=
  runTop (instrWord 0o617 a e) (bodyTsnn a e) s

/-- TRZ as a step. -/
def execTrz (a : AcNum) (e : AddrFields) (s : State) : Host.Outcome State Fault Refusal :=
  runTop (instrWord 0o620 a e) (bodyTrz a e) s

/-- TLZ as a step. -/
def execTlz (a : AcNum) (e : AddrFields) (s : State) : Host.Outcome State Fault Refusal :=
  runTop (instrWord 0o621 a e) (bodyTlz a e) s

/-- TRZE as a step. -/
def execTrze (a : AcNum) (e : AddrFields) (s : State) : Host.Outcome State Fault Refusal :=
  runTop (instrWord 0o622 a e) (bodyTrze a e) s

/-- TLZE as a step. -/
def execTlze (a : AcNum) (e : AddrFields) (s : State) : Host.Outcome State Fault Refusal :=
  runTop (instrWord 0o623 a e) (bodyTlze a e) s

/-- TRZA as a step. -/
def execTrza (a : AcNum) (e : AddrFields) (s : State) : Host.Outcome State Fault Refusal :=
  runTop (instrWord 0o624 a e) (bodyTrza a e) s

/-- TLZA as a step. -/
def execTlza (a : AcNum) (e : AddrFields) (s : State) : Host.Outcome State Fault Refusal :=
  runTop (instrWord 0o625 a e) (bodyTlza a e) s

/-- TRZN as a step. -/
def execTrzn (a : AcNum) (e : AddrFields) (s : State) : Host.Outcome State Fault Refusal :=
  runTop (instrWord 0o626 a e) (bodyTrzn a e) s

/-- TLZN as a step. -/
def execTlzn (a : AcNum) (e : AddrFields) (s : State) : Host.Outcome State Fault Refusal :=
  runTop (instrWord 0o627 a e) (bodyTlzn a e) s

/-- TDZ as a step. -/
def execTdz (a : AcNum) (e : AddrFields) (s : State) : Host.Outcome State Fault Refusal :=
  runTop (instrWord 0o630 a e) (bodyTdz a e) s

/-- TSZ as a step. -/
def execTsz (a : AcNum) (e : AddrFields) (s : State) : Host.Outcome State Fault Refusal :=
  runTop (instrWord 0o631 a e) (bodyTsz a e) s

/-- TDZE as a step. -/
def execTdze (a : AcNum) (e : AddrFields) (s : State) : Host.Outcome State Fault Refusal :=
  runTop (instrWord 0o632 a e) (bodyTdze a e) s

/-- TSZE as a step. -/
def execTsze (a : AcNum) (e : AddrFields) (s : State) : Host.Outcome State Fault Refusal :=
  runTop (instrWord 0o633 a e) (bodyTsze a e) s

/-- TDZA as a step. -/
def execTdza (a : AcNum) (e : AddrFields) (s : State) : Host.Outcome State Fault Refusal :=
  runTop (instrWord 0o634 a e) (bodyTdza a e) s

/-- TSZA as a step. -/
def execTsza (a : AcNum) (e : AddrFields) (s : State) : Host.Outcome State Fault Refusal :=
  runTop (instrWord 0o635 a e) (bodyTsza a e) s

/-- TDZN as a step. -/
def execTdzn (a : AcNum) (e : AddrFields) (s : State) : Host.Outcome State Fault Refusal :=
  runTop (instrWord 0o636 a e) (bodyTdzn a e) s

/-- TSZN as a step. -/
def execTszn (a : AcNum) (e : AddrFields) (s : State) : Host.Outcome State Fault Refusal :=
  runTop (instrWord 0o637 a e) (bodyTszn a e) s

/-- TRC as a step. -/
def execTrc (a : AcNum) (e : AddrFields) (s : State) : Host.Outcome State Fault Refusal :=
  runTop (instrWord 0o640 a e) (bodyTrc a e) s

/-- TLC as a step. -/
def execTlc (a : AcNum) (e : AddrFields) (s : State) : Host.Outcome State Fault Refusal :=
  runTop (instrWord 0o641 a e) (bodyTlc a e) s

/-- TRCE as a step. -/
def execTrce (a : AcNum) (e : AddrFields) (s : State) : Host.Outcome State Fault Refusal :=
  runTop (instrWord 0o642 a e) (bodyTrce a e) s

/-- TLCE as a step. -/
def execTlce (a : AcNum) (e : AddrFields) (s : State) : Host.Outcome State Fault Refusal :=
  runTop (instrWord 0o643 a e) (bodyTlce a e) s

/-- TRCA as a step. -/
def execTrca (a : AcNum) (e : AddrFields) (s : State) : Host.Outcome State Fault Refusal :=
  runTop (instrWord 0o644 a e) (bodyTrca a e) s

/-- TLCA as a step. -/
def execTlca (a : AcNum) (e : AddrFields) (s : State) : Host.Outcome State Fault Refusal :=
  runTop (instrWord 0o645 a e) (bodyTlca a e) s

/-- TRCN as a step. -/
def execTrcn (a : AcNum) (e : AddrFields) (s : State) : Host.Outcome State Fault Refusal :=
  runTop (instrWord 0o646 a e) (bodyTrcn a e) s

/-- TLCN as a step. -/
def execTlcn (a : AcNum) (e : AddrFields) (s : State) : Host.Outcome State Fault Refusal :=
  runTop (instrWord 0o647 a e) (bodyTlcn a e) s

/-- TDC as a step. -/
def execTdc (a : AcNum) (e : AddrFields) (s : State) : Host.Outcome State Fault Refusal :=
  runTop (instrWord 0o650 a e) (bodyTdc a e) s

/-- TSC as a step. -/
def execTsc (a : AcNum) (e : AddrFields) (s : State) : Host.Outcome State Fault Refusal :=
  runTop (instrWord 0o651 a e) (bodyTsc a e) s

/-- TDCE as a step. -/
def execTdce (a : AcNum) (e : AddrFields) (s : State) : Host.Outcome State Fault Refusal :=
  runTop (instrWord 0o652 a e) (bodyTdce a e) s

/-- TSCE as a step. -/
def execTsce (a : AcNum) (e : AddrFields) (s : State) : Host.Outcome State Fault Refusal :=
  runTop (instrWord 0o653 a e) (bodyTsce a e) s

/-- TDCA as a step. -/
def execTdca (a : AcNum) (e : AddrFields) (s : State) : Host.Outcome State Fault Refusal :=
  runTop (instrWord 0o654 a e) (bodyTdca a e) s

/-- TSCA as a step. -/
def execTsca (a : AcNum) (e : AddrFields) (s : State) : Host.Outcome State Fault Refusal :=
  runTop (instrWord 0o655 a e) (bodyTsca a e) s

/-- TDCN as a step. -/
def execTdcn (a : AcNum) (e : AddrFields) (s : State) : Host.Outcome State Fault Refusal :=
  runTop (instrWord 0o656 a e) (bodyTdcn a e) s

/-- TSCN as a step. -/
def execTscn (a : AcNum) (e : AddrFields) (s : State) : Host.Outcome State Fault Refusal :=
  runTop (instrWord 0o657 a e) (bodyTscn a e) s

/-- TRO as a step. -/
def execTro (a : AcNum) (e : AddrFields) (s : State) : Host.Outcome State Fault Refusal :=
  runTop (instrWord 0o660 a e) (bodyTro a e) s

/-- TLO as a step. -/
def execTlo (a : AcNum) (e : AddrFields) (s : State) : Host.Outcome State Fault Refusal :=
  runTop (instrWord 0o661 a e) (bodyTlo a e) s

/-- TROE as a step. -/
def execTroe (a : AcNum) (e : AddrFields) (s : State) : Host.Outcome State Fault Refusal :=
  runTop (instrWord 0o662 a e) (bodyTroe a e) s

/-- TLOE as a step. -/
def execTloe (a : AcNum) (e : AddrFields) (s : State) : Host.Outcome State Fault Refusal :=
  runTop (instrWord 0o663 a e) (bodyTloe a e) s

/-- TROA as a step. -/
def execTroa (a : AcNum) (e : AddrFields) (s : State) : Host.Outcome State Fault Refusal :=
  runTop (instrWord 0o664 a e) (bodyTroa a e) s

/-- TLOA as a step. -/
def execTloa (a : AcNum) (e : AddrFields) (s : State) : Host.Outcome State Fault Refusal :=
  runTop (instrWord 0o665 a e) (bodyTloa a e) s

/-- TRON as a step. -/
def execTron (a : AcNum) (e : AddrFields) (s : State) : Host.Outcome State Fault Refusal :=
  runTop (instrWord 0o666 a e) (bodyTron a e) s

/-- TLON as a step. -/
def execTlon (a : AcNum) (e : AddrFields) (s : State) : Host.Outcome State Fault Refusal :=
  runTop (instrWord 0o667 a e) (bodyTlon a e) s

/-- TDO as a step. -/
def execTdo (a : AcNum) (e : AddrFields) (s : State) : Host.Outcome State Fault Refusal :=
  runTop (instrWord 0o670 a e) (bodyTdo a e) s

/-- TSO as a step. -/
def execTso (a : AcNum) (e : AddrFields) (s : State) : Host.Outcome State Fault Refusal :=
  runTop (instrWord 0o671 a e) (bodyTso a e) s

/-- TDOE as a step. -/
def execTdoe (a : AcNum) (e : AddrFields) (s : State) : Host.Outcome State Fault Refusal :=
  runTop (instrWord 0o672 a e) (bodyTdoe a e) s

/-- TSOE as a step. -/
def execTsoe (a : AcNum) (e : AddrFields) (s : State) : Host.Outcome State Fault Refusal :=
  runTop (instrWord 0o673 a e) (bodyTsoe a e) s

/-- TDOA as a step. -/
def execTdoa (a : AcNum) (e : AddrFields) (s : State) : Host.Outcome State Fault Refusal :=
  runTop (instrWord 0o674 a e) (bodyTdoa a e) s

/-- TSOA as a step. -/
def execTsoa (a : AcNum) (e : AddrFields) (s : State) : Host.Outcome State Fault Refusal :=
  runTop (instrWord 0o675 a e) (bodyTsoa a e) s

/-- TDON as a step. -/
def execTdon (a : AcNum) (e : AddrFields) (s : State) : Host.Outcome State Fault Refusal :=
  runTop (instrWord 0o676 a e) (bodyTdon a e) s

/-- TSON as a step. -/
def execTson (a : AcNum) (e : AddrFields) (s : State) : Host.Outcome State Fault Refusal :=
  runTop (instrWord 0o677 a e) (bodyTson a e) s

end Sys2Proof.Machine
end

