-- ==== Sys2Proof/Machine/Uuo.lean ====
section
/-! DEFINITION. The instructions that execute a further word: LUUO with PC section zero, XCT and PXCT (spec/45_uuo.md R340 to R345,
48_xct_pxct.md R430 to R461), and the LUUO block. `run` executes a word in a frame. -/

namespace Sys2Proof.Machine

/-- Executes a word as an instruction. -/
abbrev RunWord := Word → Body

/-- Executes the word `w` fetched by an XCT or an LUUO (R430, R342). -/
def Mach.execute (m : Mach) (run : RunWord) (w : Word) (f : Frame) : Run Mach :=
  run (standardWord m.st.cfg.opcodes w) f { m with iw := some (standardWord m.st.cfg.opcodes w) }

/-- The event of an LUUO (60_exceptions.md R480, R484); in section zero no table goes with it (log 17). -/
def luuoEvent (s : State) (kind : TrapKind) (table : Option Table) (op : BitVec 9) (a : AcNum) (pc : Option Addr) (e : Addr) :
    TrapEvent :=
  { kind := kind, table := table, op := some (implemented s.cfg.opcodes op a), pcStored := pc, eStored := e, flags := s.flags }

/-- What an LUUO reports (60_exceptions.md R484). -/
def luuoData (s : State) (op : BitVec 9) (a : AcNum) (ea : EA) : TrapData :=
  { op := implemented s.cfg.opcodes op a, ea := ea, user := s.mode == .user }

/-- LUUO with PC section zero (R342): the word stored in 40, the instruction at 41 executed as if by XCT. -/
def luuo40 (run : RunWord) (op : BitVec 9) (a : AcNum) (ea : EA) (m : Mach) : Run Mach :=
  match m.st.cfg.traps.luuo40 with
  | some fs => do
    let m ← m.write ⟨0o40, .loc⟩ .cur (m.st.assemble (luuoData m.st op a ea) fs)
    let w ← m.read ⟨0o41, .loc⟩ .cur
    m.execute run w ⟨0, none⟩
  | none => .error (.fault (.terminalTrap (luuoEvent m.st .luuo0 none op a none (mkAddr 0 (offOf ea.addr)))))

/-- The table that addresses the LUUO block (R343). -/
def State.luuoTable (s : State) : Table := if s.mode = .user then .upt else .ept

/-- The address word of the LUUO block (R343). -/
def State.luuoPointer (s : State) (lb : LuuoLayout) : Word := s.get (.cell ((s.tableBase s.luuoTable).toNat + lb.pointer))

/-- Word `k` of a block at `base` in the current context. -/
def Mach.blockWord (m : Mach) (base : Addr) (k : Nat) : Run EA := do
  m.ruling (Nat.ble (2 ^ 30) (base.toNat + k)) .addressTop
  pure (Nat.iterate inc k ⟨base, .glob⟩)

/-- Stores words in a block in the current context, each at its number (R343). -/
def storeBlock (base : Addr) : List (Nat × Word) → Mach → Run Mach
  | [], m => .ok m
  | (k, v) :: t, m => do
    let e ← m.blockWord base k
    let m ← m.write e .cur v
    storeBlock base t m

/-- Stores words in a block that is addressed in a space or (none) physically; none where one cannot be referenced (60_exceptions.md
R487). -/
def storePlaced (sp : Option Space) (base : Word) : List (Nat × Word) → Mach → Option Mach
  | [], m => some m
  | (k, v) :: t, m =>
    match m.st.blockPlace sp base k .write with
    | none => none
    | some l => storePlaced sp base t (m.put l v)

/-- The event of an LUUO with PC section non-zero, where it is terminal (R343). -/
def luuoTerminal (op : BitVec 9) (a : AcNum) (ea : EA) (m : Mach) : Run Mach :=
  .error (.fault (.terminalTrap
    (luuoEvent m.st .luuo (some m.st.luuoTable) op a (some (m.st.pcPlus 1)) (convE ea))))

/-- LUUO with PC section non-zero (R343): the block that a word of the UPT or EPT addresses; the mode does not change
(60_exceptions.md R483). -/
def luuoBlock (op : BitVec 9) (a : AcNum) (ea : EA) (m : Mach) : Run Mach :=
  match m.st.cfg.traps.luuoBlock with
  | none => luuoTerminal op a ea m
  | some lb =>
    let base := m.st.luuoPointer lb
    let words := m.st.trapWords (luuoData m.st op a ea) lb.words
    match lb.addressing with
    | .current => do
      let m ← storeBlock (addrOf base) words m
      let e ← m.blockWord (addrOf base) lb.newPc
      let w ← m.read e .cur
      pure (m.setPc (addrOf w))
    | .placed sp =>
      match storePlaced sp base words m with
      | none => luuoTerminal op a ea m
      | some m' =>
        match m'.st.blockPlace sp base lb.newPc .read with
        | none => luuoTerminal op a ea m
        | some l => .ok (m'.setPc (addrOf (m'.st.get l)))

/-- An LUUO (R340, R341). -/
def luuoOp (run : RunWord) (op : BitVec 9) (a : AcNum) (e : AddrFields) : Body := fun f m => do
  let ea ← instrEa .inapplicable e f m
  if m.st.pcSec = 0 then luuo40 run op a ea m else luuoBlock op a ea m

/-- XCT (R430 to R439). -/
def bodyXct (run : RunWord) (e : AddrFields) : Body := fun f m => do
  let ea ← instrEa .inapplicable e f m
  let w ← m.read ea .cur
  m.execute run w ⟨secOf ea.addr, none⟩

/-- PXCT (R440, R441); in user mode refused, or, where the parameter `rulings` lets it run, an XCT whose AC field is ignored (PRESUMED,
log 30; log 47). -/
def bodyPxct (run : RunWord) (n : AcNum) (e : AddrFields) : Body := fun f m => do
  let ea ← instrEa .inapplicable e f m
  m.ruling (m.st.mode == .user) .pxctInUserMode
  let w ← m.read ea .cur
  m.execute run w ⟨secOf ea.addr, if m.st.mode = .user then none else some (pxOf n)⟩

/-- LUUO 001 (R340). -/
def bodyLuuo01 (run : RunWord) (a : AcNum) (e : AddrFields) : Body := luuoOp run 0o001 a e

/-- LUUO 002 (R340). -/
def bodyLuuo02 (run : RunWord) (a : AcNum) (e : AddrFields) : Body := luuoOp run 0o002 a e

/-- LUUO 003 (R340). -/
def bodyLuuo03 (run : RunWord) (a : AcNum) (e : AddrFields) : Body := luuoOp run 0o003 a e

/-- LUUO 004 (R340). -/
def bodyLuuo04 (run : RunWord) (a : AcNum) (e : AddrFields) : Body := luuoOp run 0o004 a e

/-- LUUO 005 (R340). -/
def bodyLuuo05 (run : RunWord) (a : AcNum) (e : AddrFields) : Body := luuoOp run 0o005 a e

/-- LUUO 006 (R340). -/
def bodyLuuo06 (run : RunWord) (a : AcNum) (e : AddrFields) : Body := luuoOp run 0o006 a e

/-- LUUO 007 (R340). -/
def bodyLuuo07 (run : RunWord) (a : AcNum) (e : AddrFields) : Body := luuoOp run 0o007 a e

/-- LUUO 010 (R340). -/
def bodyLuuo10 (run : RunWord) (a : AcNum) (e : AddrFields) : Body := luuoOp run 0o010 a e

/-- LUUO 011 (R340). -/
def bodyLuuo11 (run : RunWord) (a : AcNum) (e : AddrFields) : Body := luuoOp run 0o011 a e

/-- LUUO 012 (R340). -/
def bodyLuuo12 (run : RunWord) (a : AcNum) (e : AddrFields) : Body := luuoOp run 0o012 a e

/-- LUUO 013 (R340). -/
def bodyLuuo13 (run : RunWord) (a : AcNum) (e : AddrFields) : Body := luuoOp run 0o013 a e

/-- LUUO 014 (R340). -/
def bodyLuuo14 (run : RunWord) (a : AcNum) (e : AddrFields) : Body := luuoOp run 0o014 a e

/-- LUUO 015 (R340). -/
def bodyLuuo15 (run : RunWord) (a : AcNum) (e : AddrFields) : Body := luuoOp run 0o015 a e

/-- LUUO 016 (R340). -/
def bodyLuuo16 (run : RunWord) (a : AcNum) (e : AddrFields) : Body := luuoOp run 0o016 a e

/-- LUUO 017 (R340). -/
def bodyLuuo17 (run : RunWord) (a : AcNum) (e : AddrFields) : Body := luuoOp run 0o017 a e

/-- LUUO 020 (R340). -/
def bodyLuuo20 (run : RunWord) (a : AcNum) (e : AddrFields) : Body := luuoOp run 0o020 a e

/-- LUUO 021 (R340). -/
def bodyLuuo21 (run : RunWord) (a : AcNum) (e : AddrFields) : Body := luuoOp run 0o021 a e

/-- LUUO 022 (R340). -/
def bodyLuuo22 (run : RunWord) (a : AcNum) (e : AddrFields) : Body := luuoOp run 0o022 a e

/-- LUUO 023 (R340). -/
def bodyLuuo23 (run : RunWord) (a : AcNum) (e : AddrFields) : Body := luuoOp run 0o023 a e

/-- LUUO 024 (R340). -/
def bodyLuuo24 (run : RunWord) (a : AcNum) (e : AddrFields) : Body := luuoOp run 0o024 a e

/-- LUUO 025 (R340). -/
def bodyLuuo25 (run : RunWord) (a : AcNum) (e : AddrFields) : Body := luuoOp run 0o025 a e

/-- LUUO 026 (R340). -/
def bodyLuuo26 (run : RunWord) (a : AcNum) (e : AddrFields) : Body := luuoOp run 0o026 a e

/-- LUUO 027 (R340). -/
def bodyLuuo27 (run : RunWord) (a : AcNum) (e : AddrFields) : Body := luuoOp run 0o027 a e

/-- LUUO 030 (R340). -/
def bodyLuuo30 (run : RunWord) (a : AcNum) (e : AddrFields) : Body := luuoOp run 0o030 a e

/-- LUUO 031 (R340). -/
def bodyLuuo31 (run : RunWord) (a : AcNum) (e : AddrFields) : Body := luuoOp run 0o031 a e

/-- LUUO 032 (R340). -/
def bodyLuuo32 (run : RunWord) (a : AcNum) (e : AddrFields) : Body := luuoOp run 0o032 a e

/-- LUUO 033 (R340). -/
def bodyLuuo33 (run : RunWord) (a : AcNum) (e : AddrFields) : Body := luuoOp run 0o033 a e

/-- LUUO 034 (R340). -/
def bodyLuuo34 (run : RunWord) (a : AcNum) (e : AddrFields) : Body := luuoOp run 0o034 a e

/-- LUUO 035 (R340). -/
def bodyLuuo35 (run : RunWord) (a : AcNum) (e : AddrFields) : Body := luuoOp run 0o035 a e

/-- LUUO 036 (R340). -/
def bodyLuuo36 (run : RunWord) (a : AcNum) (e : AddrFields) : Body := luuoOp run 0o036 a e

/-- LUUO 037 (R340). -/
def bodyLuuo37 (run : RunWord) (a : AcNum) (e : AddrFields) : Body := luuoOp run 0o037 a e

end Sys2Proof.Machine
end

