-- ==== Sys2Proof/Machine/Execute.lean ====
section
/-! DEFINITION. `Execute` of spec/47_general.md R412: the meaning of a word, chosen by its opcode (30_encoding.md R121, R122). It is the
decoder followed by the meaning of the decoded instruction (Laws/Execute.lean proves it); it does not pass through `Instr`
because Lean's code generator cannot build a value of a type with more than 244 constructors (Decode.lean), and `step` is to
be an ordinary computable definition. -/

namespace Sys2Proof.Machine

/-- The functions of opcode 254 (R122). -/
def executeJrst (f : Nat) (e : AddrFields) : Body :=
  match f with
  | 0o00 => bodyJrst e
  | 0o01 => bodyPortal e
  | 0o02 => bodyJrstf e
  | 0o03 => bodyMuuoJrst03 e
  | 0o04 => bodyHalt e
  | 0o05 => bodyXjrstf e
  | 0o06 => bodyXjen e
  | 0o07 => bodyXpcw e
  | 0o10 => bodyJrst10 e
  | 0o11 => bodyMuuoJrst11 e
  | 0o12 => bodyJen e
  | 0o13 => bodyMuuoJrst13 e
  | 0o14 => bodySfm e
  | 0o15 => bodyXjrst e
  | 0o16 => bodyMuuoJrst16 e
  | _ => bodyMuuoJrst17 e

/-- Opcodes 000 to 037; `n` is the low two octal digits (R121). -/
def executeOp0 (run : RunWord) (n : Nat) (a : AcNum) (e : AddrFields) : Body :=
  match n with
  | 0o00 => bodyMuuo000 a e
  | 0o01 => bodyLuuo01 run a e
  | 0o02 => bodyLuuo02 run a e
  | 0o03 => bodyLuuo03 run a e
  | 0o04 => bodyLuuo04 run a e
  | 0o05 => bodyLuuo05 run a e
  | 0o06 => bodyLuuo06 run a e
  | 0o07 => bodyLuuo07 run a e
  | 0o10 => bodyLuuo10 run a e
  | 0o11 => bodyLuuo11 run a e
  | 0o12 => bodyLuuo12 run a e
  | 0o13 => bodyLuuo13 run a e
  | 0o14 => bodyLuuo14 run a e
  | 0o15 => bodyLuuo15 run a e
  | 0o16 => bodyLuuo16 run a e
  | 0o17 => bodyLuuo17 run a e
  | 0o20 => bodyLuuo20 run a e
  | 0o21 => bodyLuuo21 run a e
  | 0o22 => bodyLuuo22 run a e
  | 0o23 => bodyLuuo23 run a e
  | 0o24 => bodyLuuo24 run a e
  | 0o25 => bodyLuuo25 run a e
  | 0o26 => bodyLuuo26 run a e
  | 0o27 => bodyLuuo27 run a e
  | 0o30 => bodyLuuo30 run a e
  | 0o31 => bodyLuuo31 run a e
  | 0o32 => bodyLuuo32 run a e
  | 0o33 => bodyLuuo33 run a e
  | 0o34 => bodyLuuo34 run a e
  | 0o35 => bodyLuuo35 run a e
  | 0o36 => bodyLuuo36 run a e
  | _ => bodyLuuo37 run a e

/-- Opcodes 100 to 177; `n` is the low two octal digits (R121). -/
def executeOp1 (n : Nat) (a : AcNum) (e : AddrFields) : Body :=
  match n with
  | 0o00 => bodyMuuo100 a e
  | 0o01 => bodyMuuo101 a e
  | 0o02 => bodyMuuo102 a e
  | 0o03 => bodyMuuo103 a e
  | 0o04 => bodyJsys a e
  | 0o05 => bodyAdjsp a e
  | 0o06 => bodyMuuo106 a e
  | 0o07 => bodyMuuo107 a e
  | 0o10 => bodyDfad a e
  | 0o11 => bodyDfsb a e
  | 0o12 => bodyDfmp a e
  | 0o13 => bodyDfdv a e
  | 0o14 => bodyDadd a e
  | 0o15 => bodyDsub a e
  | 0o16 => bodyDmul a e
  | 0o17 => bodyDdiv a e
  | 0o20 => bodyDmove a e
  | 0o21 => bodyDmovn a e
  | 0o22 => bodyFix a e
  | 0o23 => bodyExtend a e
  | 0o24 => bodyDmovem a e
  | 0o25 => bodyDmovnm a e
  | 0o26 => bodyFixr a e
  | 0o27 => bodyFltr a e
  | 0o30 => bodyUfa a e
  | 0o31 => bodyDfn a e
  | 0o32 => bodyFsc a e
  | 0o33 => bodyIbp a e
  | 0o34 => bodyIldb a e
  | 0o35 => bodyLdb a e
  | 0o36 => bodyIdpb a e
  | 0o37 => bodyDpb a e
  | 0o40 => bodyFad a e
  | 0o41 => bodyMuuo141 a e
  | 0o42 => bodyFadm a e
  | 0o43 => bodyFadb a e
  | 0o44 => bodyFadr a e
  | 0o45 => bodyFadri a e
  | 0o46 => bodyFadrm a e
  | 0o47 => bodyFadrb a e
  | 0o50 => bodyFsb a e
  | 0o51 => bodyMuuo151 a e
  | 0o52 => bodyFsbm a e
  | 0o53 => bodyFsbb a e
  | 0o54 => bodyFsbr a e
  | 0o55 => bodyFsbri a e
  | 0o56 => bodyFsbrm a e
  | 0o57 => bodyFsbrb a e
  | 0o60 => bodyFmp a e
  | 0o61 => bodyMuuo161 a e
  | 0o62 => bodyFmpm a e
  | 0o63 => bodyFmpb a e
  | 0o64 => bodyFmpr a e
  | 0o65 => bodyFmpri a e
  | 0o66 => bodyFmprm a e
  | 0o67 => bodyFmprb a e
  | 0o70 => bodyFdv a e
  | 0o71 => bodyMuuo171 a e
  | 0o72 => bodyFdvm a e
  | 0o73 => bodyFdvb a e
  | 0o74 => bodyFdvr a e
  | 0o75 => bodyFdvri a e
  | 0o76 => bodyFdvrm a e
  | _ => bodyFdvrb a e

/-- Opcodes 200 to 277; `n` is the low two octal digits (R121). -/
def executeOp2 (run : RunWord) (n : Nat) (a : AcNum) (e : AddrFields) : Body :=
  match n with
  | 0o00 => bodyMove a e
  | 0o01 => bodyMovei a e
  | 0o02 => bodyMovem a e
  | 0o03 => bodyMoves a e
  | 0o04 => bodyMovs a e
  | 0o05 => bodyMovsi a e
  | 0o06 => bodyMovsm a e
  | 0o07 => bodyMovss a e
  | 0o10 => bodyMovn a e
  | 0o11 => bodyMovni a e
  | 0o12 => bodyMovnm a e
  | 0o13 => bodyMovns a e
  | 0o14 => bodyMovm a e
  | 0o15 => bodyMovmi a e
  | 0o16 => bodyMovmm a e
  | 0o17 => bodyMovms a e
  | 0o20 => bodyImul a e
  | 0o21 => bodyImuli a e
  | 0o22 => bodyImulm a e
  | 0o23 => bodyImulb a e
  | 0o24 => bodyMul a e
  | 0o25 => bodyMuli a e
  | 0o26 => bodyMulm a e
  | 0o27 => bodyMulb a e
  | 0o30 => bodyIdiv a e
  | 0o31 => bodyIdivi a e
  | 0o32 => bodyIdivm a e
  | 0o33 => bodyIdivb a e
  | 0o34 => bodyDiv a e
  | 0o35 => bodyDivi a e
  | 0o36 => bodyDivm a e
  | 0o37 => bodyDivb a e
  | 0o40 => bodyAsh a e
  | 0o41 => bodyRot a e
  | 0o42 => bodyLsh a e
  | 0o43 => bodyJffo a e
  | 0o44 => bodyAshc a e
  | 0o45 => bodyRotc a e
  | 0o46 => bodyLshc a e
  | 0o47 => bodyMuuo247 a e
  | 0o50 => bodyExch a e
  | 0o51 => bodyBlt a e
  | 0o52 => bodyAobjp a e
  | 0o53 => bodyAobjn a e
  | 0o54 => executeJrst a.toNat e
  | 0o55 => bodyJfcl a e
  | 0o56 => if a = 0 then bodyXct run e else bodyPxct run a e
  | 0o57 => bodyMap a e
  | 0o60 => bodyPushj a e
  | 0o61 => bodyPush a e
  | 0o62 => bodyPop a e
  | 0o63 => bodyPopj a e
  | 0o64 => bodyJsr a e
  | 0o65 => bodyJsp a e
  | 0o66 => bodyJsa a e
  | 0o67 => bodyJra a e
  | 0o70 => bodyAdd a e
  | 0o71 => bodyAddi a e
  | 0o72 => bodyAddm a e
  | 0o73 => bodyAddb a e
  | 0o74 => bodySub a e
  | 0o75 => bodySubi a e
  | 0o76 => bodySubm a e
  | _ => bodySubb a e

/-- Opcodes 300 to 377; `n` is the low two octal digits (R121). -/
def executeOp3 (n : Nat) (a : AcNum) (e : AddrFields) : Body :=
  match n with
  | 0o00 => bodyCai a e
  | 0o01 => bodyCail a e
  | 0o02 => bodyCaie a e
  | 0o03 => bodyCaile a e
  | 0o04 => bodyCaia a e
  | 0o05 => bodyCaige a e
  | 0o06 => bodyCain a e
  | 0o07 => bodyCaig a e
  | 0o10 => bodyCam a e
  | 0o11 => bodyCaml a e
  | 0o12 => bodyCame a e
  | 0o13 => bodyCamle a e
  | 0o14 => bodyCama a e
  | 0o15 => bodyCamge a e
  | 0o16 => bodyCamn a e
  | 0o17 => bodyCamg a e
  | 0o20 => bodyJump a e
  | 0o21 => bodyJumpl a e
  | 0o22 => bodyJumpe a e
  | 0o23 => bodyJumple a e
  | 0o24 => bodyJumpa a e
  | 0o25 => bodyJumpge a e
  | 0o26 => bodyJumpn a e
  | 0o27 => bodyJumpg a e
  | 0o30 => bodySkip a e
  | 0o31 => bodySkipl a e
  | 0o32 => bodySkipe a e
  | 0o33 => bodySkiple a e
  | 0o34 => bodySkipa a e
  | 0o35 => bodySkipge a e
  | 0o36 => bodySkipn a e
  | 0o37 => bodySkipg a e
  | 0o40 => bodyAoj a e
  | 0o41 => bodyAojl a e
  | 0o42 => bodyAoje a e
  | 0o43 => bodyAojle a e
  | 0o44 => bodyAoja a e
  | 0o45 => bodyAojge a e
  | 0o46 => bodyAojn a e
  | 0o47 => bodyAojg a e
  | 0o50 => bodyAos a e
  | 0o51 => bodyAosl a e
  | 0o52 => bodyAose a e
  | 0o53 => bodyAosle a e
  | 0o54 => bodyAosa a e
  | 0o55 => bodyAosge a e
  | 0o56 => bodyAosn a e
  | 0o57 => bodyAosg a e
  | 0o60 => bodySoj a e
  | 0o61 => bodySojl a e
  | 0o62 => bodySoje a e
  | 0o63 => bodySojle a e
  | 0o64 => bodySoja a e
  | 0o65 => bodySojge a e
  | 0o66 => bodySojn a e
  | 0o67 => bodySojg a e
  | 0o70 => bodySos a e
  | 0o71 => bodySosl a e
  | 0o72 => bodySose a e
  | 0o73 => bodySosle a e
  | 0o74 => bodySosa a e
  | 0o75 => bodySosge a e
  | 0o76 => bodySosn a e
  | _ => bodySosg a e

/-- Opcodes 400 to 477; `n` is the low two octal digits (R121). -/
def executeOp4 (n : Nat) (a : AcNum) (e : AddrFields) : Body :=
  match n with
  | 0o00 => bodySetz a e
  | 0o01 => bodySetzi a e
  | 0o02 => bodySetzm a e
  | 0o03 => bodySetzb a e
  | 0o04 => bodyAnd a e
  | 0o05 => bodyAndi a e
  | 0o06 => bodyAndm a e
  | 0o07 => bodyAndb a e
  | 0o10 => bodyAndca a e
  | 0o11 => bodyAndcai a e
  | 0o12 => bodyAndcam a e
  | 0o13 => bodyAndcab a e
  | 0o14 => bodySetm a e
  | 0o15 => bodyXmovei a e
  | 0o16 => bodySetmm a e
  | 0o17 => bodySetmb a e
  | 0o20 => bodyAndcm a e
  | 0o21 => bodyAndcmi a e
  | 0o22 => bodyAndcmm a e
  | 0o23 => bodyAndcmb a e
  | 0o24 => bodySeta a e
  | 0o25 => bodySetai a e
  | 0o26 => bodySetam a e
  | 0o27 => bodySetab a e
  | 0o30 => bodyXor a e
  | 0o31 => bodyXori a e
  | 0o32 => bodyXorm a e
  | 0o33 => bodyXorb a e
  | 0o34 => bodyIor a e
  | 0o35 => bodyIori a e
  | 0o36 => bodyIorm a e
  | 0o37 => bodyIorb a e
  | 0o40 => bodyAndcb a e
  | 0o41 => bodyAndcbi a e
  | 0o42 => bodyAndcbm a e
  | 0o43 => bodyAndcbb a e
  | 0o44 => bodyEqv a e
  | 0o45 => bodyEqvi a e
  | 0o46 => bodyEqvm a e
  | 0o47 => bodyEqvb a e
  | 0o50 => bodySetca a e
  | 0o51 => bodySetcai a e
  | 0o52 => bodySetcam a e
  | 0o53 => bodySetcab a e
  | 0o54 => bodyOrca a e
  | 0o55 => bodyOrcai a e
  | 0o56 => bodyOrcam a e
  | 0o57 => bodyOrcab a e
  | 0o60 => bodySetcm a e
  | 0o61 => bodySetcmi a e
  | 0o62 => bodySetcmm a e
  | 0o63 => bodySetcmb a e
  | 0o64 => bodyOrcm a e
  | 0o65 => bodyOrcmi a e
  | 0o66 => bodyOrcmm a e
  | 0o67 => bodyOrcmb a e
  | 0o70 => bodyOrcb a e
  | 0o71 => bodyOrcbi a e
  | 0o72 => bodyOrcbm a e
  | 0o73 => bodyOrcbb a e
  | 0o74 => bodySeto a e
  | 0o75 => bodySetoi a e
  | 0o76 => bodySetom a e
  | _ => bodySetob a e

/-- Opcodes 500 to 577; `n` is the low two octal digits (R121). -/
def executeOp5 (n : Nat) (a : AcNum) (e : AddrFields) : Body :=
  match n with
  | 0o00 => bodyHll a e
  | 0o01 => bodyXhlli a e
  | 0o02 => bodyHllm a e
  | 0o03 => bodyHlls a e
  | 0o04 => bodyHrl a e
  | 0o05 => bodyHrli a e
  | 0o06 => bodyHrlm a e
  | 0o07 => bodyHrls a e
  | 0o10 => bodyHllz a e
  | 0o11 => bodyHllzi a e
  | 0o12 => bodyHllzm a e
  | 0o13 => bodyHllzs a e
  | 0o14 => bodyHrlz a e
  | 0o15 => bodyHrlzi a e
  | 0o16 => bodyHrlzm a e
  | 0o17 => bodyHrlzs a e
  | 0o20 => bodyHllo a e
  | 0o21 => bodyHlloi a e
  | 0o22 => bodyHllom a e
  | 0o23 => bodyHllos a e
  | 0o24 => bodyHrlo a e
  | 0o25 => bodyHrloi a e
  | 0o26 => bodyHrlom a e
  | 0o27 => bodyHrlos a e
  | 0o30 => bodyHlle a e
  | 0o31 => bodyHllei a e
  | 0o32 => bodyHllem a e
  | 0o33 => bodyHlles a e
  | 0o34 => bodyHrle a e
  | 0o35 => bodyHrlei a e
  | 0o36 => bodyHrlem a e
  | 0o37 => bodyHrles a e
  | 0o40 => bodyHrr a e
  | 0o41 => bodyHrri a e
  | 0o42 => bodyHrrm a e
  | 0o43 => bodyHrrs a e
  | 0o44 => bodyHlr a e
  | 0o45 => bodyHlri a e
  | 0o46 => bodyHlrm a e
  | 0o47 => bodyHlrs a e
  | 0o50 => bodyHrrz a e
  | 0o51 => bodyHrrzi a e
  | 0o52 => bodyHrrzm a e
  | 0o53 => bodyHrrzs a e
  | 0o54 => bodyHlrz a e
  | 0o55 => bodyHlrzi a e
  | 0o56 => bodyHlrzm a e
  | 0o57 => bodyHlrzs a e
  | 0o60 => bodyHrro a e
  | 0o61 => bodyHrroi a e
  | 0o62 => bodyHrrom a e
  | 0o63 => bodyHrros a e
  | 0o64 => bodyHlro a e
  | 0o65 => bodyHlroi a e
  | 0o66 => bodyHlrom a e
  | 0o67 => bodyHlros a e
  | 0o70 => bodyHrre a e
  | 0o71 => bodyHrrei a e
  | 0o72 => bodyHrrem a e
  | 0o73 => bodyHrres a e
  | 0o74 => bodyHlre a e
  | 0o75 => bodyHlrei a e
  | 0o76 => bodyHlrem a e
  | _ => bodyHlres a e

/-- Opcodes 600 to 677; `n` is the low two octal digits (R121). -/
def executeOp6 (n : Nat) (a : AcNum) (e : AddrFields) : Body :=
  match n with
  | 0o00 => bodyTrn a e
  | 0o01 => bodyTln a e
  | 0o02 => bodyTrne a e
  | 0o03 => bodyTlne a e
  | 0o04 => bodyTrna a e
  | 0o05 => bodyTlna a e
  | 0o06 => bodyTrnn a e
  | 0o07 => bodyTlnn a e
  | 0o10 => bodyTdn a e
  | 0o11 => bodyTsn a e
  | 0o12 => bodyTdne a e
  | 0o13 => bodyTsne a e
  | 0o14 => bodyTdna a e
  | 0o15 => bodyTsna a e
  | 0o16 => bodyTdnn a e
  | 0o17 => bodyTsnn a e
  | 0o20 => bodyTrz a e
  | 0o21 => bodyTlz a e
  | 0o22 => bodyTrze a e
  | 0o23 => bodyTlze a e
  | 0o24 => bodyTrza a e
  | 0o25 => bodyTlza a e
  | 0o26 => bodyTrzn a e
  | 0o27 => bodyTlzn a e
  | 0o30 => bodyTdz a e
  | 0o31 => bodyTsz a e
  | 0o32 => bodyTdze a e
  | 0o33 => bodyTsze a e
  | 0o34 => bodyTdza a e
  | 0o35 => bodyTsza a e
  | 0o36 => bodyTdzn a e
  | 0o37 => bodyTszn a e
  | 0o40 => bodyTrc a e
  | 0o41 => bodyTlc a e
  | 0o42 => bodyTrce a e
  | 0o43 => bodyTlce a e
  | 0o44 => bodyTrca a e
  | 0o45 => bodyTlca a e
  | 0o46 => bodyTrcn a e
  | 0o47 => bodyTlcn a e
  | 0o50 => bodyTdc a e
  | 0o51 => bodyTsc a e
  | 0o52 => bodyTdce a e
  | 0o53 => bodyTsce a e
  | 0o54 => bodyTdca a e
  | 0o55 => bodyTsca a e
  | 0o56 => bodyTdcn a e
  | 0o57 => bodyTscn a e
  | 0o60 => bodyTro a e
  | 0o61 => bodyTlo a e
  | 0o62 => bodyTroe a e
  | 0o63 => bodyTloe a e
  | 0o64 => bodyTroa a e
  | 0o65 => bodyTloa a e
  | 0o66 => bodyTron a e
  | 0o67 => bodyTlon a e
  | 0o70 => bodyTdo a e
  | 0o71 => bodyTso a e
  | 0o72 => bodyTdoe a e
  | 0o73 => bodyTsoe a e
  | 0o74 => bodyTdoa a e
  | 0o75 => bodyTsoa a e
  | 0o76 => bodyTdon a e
  | _ => bodyTson a e

/-- The meaning of the word `w`, `run` executing the words it executes in turn (R412). -/
def executeWith (run : RunWord) : RunWord := fun w =>
  let op := opField w
  let a := acField w
  let e := fieldsOf w
  match op.toNat / 0o100 with
  | 0 => if op.toNat < 0o40 then executeOp0 run op.toNat a e else bodyMuuo040 (op.setWidth 5) a e
  | 1 => executeOp1 (op.toNat % 0o100) a e
  | 2 => executeOp2 run (op.toNat % 0o100) a e
  | 3 => executeOp3 (op.toNat % 0o100) a e
  | 4 => executeOp4 (op.toNat % 0o100) a e
  | 5 => executeOp5 (op.toNat % 0o100) a e
  | 6 => executeOp6 (op.toNat % 0o100) a e
  | _ => bodyIo (w.extractLsb' 0 33)

/-- Executes a word with at most `fuel` further words executed one inside the other; a longer chain is stuck (48_xct_pxct.md
R432). -/
def execute : Nat → RunWord
  | 0 => fun _ _ _ => .error (.fault .stuck)
  | fuel + 1 => executeWith (execute fuel)

/-- More links than a chain that ends can have: a link is determined by one of 2^31 references (R432; log 37). -/
def chainFuel : Nat := 2 ^ 40

/-- What XCT, PXCT and LUUO execute their word with. -/
def runWord : RunWord := execute chainFuel

end Sys2Proof.Machine
end

