-- ==== Sys2Proof/Machine/Xct.lean ====
section
/-! DEFINITION. XCT, PXCT and the LUUOs as steps: they execute a further word (spec/48_xct_pxct.md R430, 45_uuo.md R342). -/

namespace Sys2Proof.Machine

/-- LUUO as a step. -/
def execLuuo01 (a : AcNum) (e : AddrFields) (s : State) : Host.Outcome State Fault Refusal :=
  runTop (instrWord 0o001 a e) (bodyLuuo01 runWord a e) s

/-- LUUO as a step. -/
def execLuuo02 (a : AcNum) (e : AddrFields) (s : State) : Host.Outcome State Fault Refusal :=
  runTop (instrWord 0o002 a e) (bodyLuuo02 runWord a e) s

/-- LUUO as a step. -/
def execLuuo03 (a : AcNum) (e : AddrFields) (s : State) : Host.Outcome State Fault Refusal :=
  runTop (instrWord 0o003 a e) (bodyLuuo03 runWord a e) s

/-- LUUO as a step. -/
def execLuuo04 (a : AcNum) (e : AddrFields) (s : State) : Host.Outcome State Fault Refusal :=
  runTop (instrWord 0o004 a e) (bodyLuuo04 runWord a e) s

/-- LUUO as a step. -/
def execLuuo05 (a : AcNum) (e : AddrFields) (s : State) : Host.Outcome State Fault Refusal :=
  runTop (instrWord 0o005 a e) (bodyLuuo05 runWord a e) s

/-- LUUO as a step. -/
def execLuuo06 (a : AcNum) (e : AddrFields) (s : State) : Host.Outcome State Fault Refusal :=
  runTop (instrWord 0o006 a e) (bodyLuuo06 runWord a e) s

/-- LUUO as a step. -/
def execLuuo07 (a : AcNum) (e : AddrFields) (s : State) : Host.Outcome State Fault Refusal :=
  runTop (instrWord 0o007 a e) (bodyLuuo07 runWord a e) s

/-- LUUO as a step. -/
def execLuuo10 (a : AcNum) (e : AddrFields) (s : State) : Host.Outcome State Fault Refusal :=
  runTop (instrWord 0o010 a e) (bodyLuuo10 runWord a e) s

/-- LUUO as a step. -/
def execLuuo11 (a : AcNum) (e : AddrFields) (s : State) : Host.Outcome State Fault Refusal :=
  runTop (instrWord 0o011 a e) (bodyLuuo11 runWord a e) s

/-- LUUO as a step. -/
def execLuuo12 (a : AcNum) (e : AddrFields) (s : State) : Host.Outcome State Fault Refusal :=
  runTop (instrWord 0o012 a e) (bodyLuuo12 runWord a e) s

/-- LUUO as a step. -/
def execLuuo13 (a : AcNum) (e : AddrFields) (s : State) : Host.Outcome State Fault Refusal :=
  runTop (instrWord 0o013 a e) (bodyLuuo13 runWord a e) s

/-- LUUO as a step. -/
def execLuuo14 (a : AcNum) (e : AddrFields) (s : State) : Host.Outcome State Fault Refusal :=
  runTop (instrWord 0o014 a e) (bodyLuuo14 runWord a e) s

/-- LUUO as a step. -/
def execLuuo15 (a : AcNum) (e : AddrFields) (s : State) : Host.Outcome State Fault Refusal :=
  runTop (instrWord 0o015 a e) (bodyLuuo15 runWord a e) s

/-- LUUO as a step. -/
def execLuuo16 (a : AcNum) (e : AddrFields) (s : State) : Host.Outcome State Fault Refusal :=
  runTop (instrWord 0o016 a e) (bodyLuuo16 runWord a e) s

/-- LUUO as a step. -/
def execLuuo17 (a : AcNum) (e : AddrFields) (s : State) : Host.Outcome State Fault Refusal :=
  runTop (instrWord 0o017 a e) (bodyLuuo17 runWord a e) s

/-- LUUO as a step. -/
def execLuuo20 (a : AcNum) (e : AddrFields) (s : State) : Host.Outcome State Fault Refusal :=
  runTop (instrWord 0o020 a e) (bodyLuuo20 runWord a e) s

/-- LUUO as a step. -/
def execLuuo21 (a : AcNum) (e : AddrFields) (s : State) : Host.Outcome State Fault Refusal :=
  runTop (instrWord 0o021 a e) (bodyLuuo21 runWord a e) s

/-- LUUO as a step. -/
def execLuuo22 (a : AcNum) (e : AddrFields) (s : State) : Host.Outcome State Fault Refusal :=
  runTop (instrWord 0o022 a e) (bodyLuuo22 runWord a e) s

/-- LUUO as a step. -/
def execLuuo23 (a : AcNum) (e : AddrFields) (s : State) : Host.Outcome State Fault Refusal :=
  runTop (instrWord 0o023 a e) (bodyLuuo23 runWord a e) s

/-- LUUO as a step. -/
def execLuuo24 (a : AcNum) (e : AddrFields) (s : State) : Host.Outcome State Fault Refusal :=
  runTop (instrWord 0o024 a e) (bodyLuuo24 runWord a e) s

/-- LUUO as a step. -/
def execLuuo25 (a : AcNum) (e : AddrFields) (s : State) : Host.Outcome State Fault Refusal :=
  runTop (instrWord 0o025 a e) (bodyLuuo25 runWord a e) s

/-- LUUO as a step. -/
def execLuuo26 (a : AcNum) (e : AddrFields) (s : State) : Host.Outcome State Fault Refusal :=
  runTop (instrWord 0o026 a e) (bodyLuuo26 runWord a e) s

/-- LUUO as a step. -/
def execLuuo27 (a : AcNum) (e : AddrFields) (s : State) : Host.Outcome State Fault Refusal :=
  runTop (instrWord 0o027 a e) (bodyLuuo27 runWord a e) s

/-- LUUO as a step. -/
def execLuuo30 (a : AcNum) (e : AddrFields) (s : State) : Host.Outcome State Fault Refusal :=
  runTop (instrWord 0o030 a e) (bodyLuuo30 runWord a e) s

/-- LUUO as a step. -/
def execLuuo31 (a : AcNum) (e : AddrFields) (s : State) : Host.Outcome State Fault Refusal :=
  runTop (instrWord 0o031 a e) (bodyLuuo31 runWord a e) s

/-- LUUO as a step. -/
def execLuuo32 (a : AcNum) (e : AddrFields) (s : State) : Host.Outcome State Fault Refusal :=
  runTop (instrWord 0o032 a e) (bodyLuuo32 runWord a e) s

/-- LUUO as a step. -/
def execLuuo33 (a : AcNum) (e : AddrFields) (s : State) : Host.Outcome State Fault Refusal :=
  runTop (instrWord 0o033 a e) (bodyLuuo33 runWord a e) s

/-- LUUO as a step. -/
def execLuuo34 (a : AcNum) (e : AddrFields) (s : State) : Host.Outcome State Fault Refusal :=
  runTop (instrWord 0o034 a e) (bodyLuuo34 runWord a e) s

/-- LUUO as a step. -/
def execLuuo35 (a : AcNum) (e : AddrFields) (s : State) : Host.Outcome State Fault Refusal :=
  runTop (instrWord 0o035 a e) (bodyLuuo35 runWord a e) s

/-- LUUO as a step. -/
def execLuuo36 (a : AcNum) (e : AddrFields) (s : State) : Host.Outcome State Fault Refusal :=
  runTop (instrWord 0o036 a e) (bodyLuuo36 runWord a e) s

/-- LUUO as a step. -/
def execLuuo37 (a : AcNum) (e : AddrFields) (s : State) : Host.Outcome State Fault Refusal :=
  runTop (instrWord 0o037 a e) (bodyLuuo37 runWord a e) s

/-- XCT as a step. -/
def execXct (e : AddrFields) (s : State) : Host.Outcome State Fault Refusal :=
  runTop (instrWord 0o256 0o00 e) (bodyXct runWord e) s

/-- PXCT as a step. -/
def execPxct (n : AcNum) (e : AddrFields) (s : State) : Host.Outcome State Fault Refusal :=
  runTop (instrWord 0o256 n e) (bodyPxct runWord n e) s

end Sys2Proof.Machine
end

