-- ==== Sys2Proof/Machine/Dispatch.lean ====
section
/-! DEFINITION. The meaning of every instruction: one arm for each constructor of `Instr` (spec/opcode_table.json). -/

namespace Sys2Proof.Machine

def exec (i : Instr) (s : State) : Host.Outcome State Fault Refusal :=
  match i with
  | .muuo000 a e => Sys2Proof.Machine.execMuuo000 a e s
  | .luuo01 a e => Sys2Proof.Machine.execLuuo01 a e s
  | .luuo02 a e => Sys2Proof.Machine.execLuuo02 a e s
  | .luuo03 a e => Sys2Proof.Machine.execLuuo03 a e s
  | .luuo04 a e => Sys2Proof.Machine.execLuuo04 a e s
  | .luuo05 a e => Sys2Proof.Machine.execLuuo05 a e s
  | .luuo06 a e => Sys2Proof.Machine.execLuuo06 a e s
  | .luuo07 a e => Sys2Proof.Machine.execLuuo07 a e s
  | .luuo10 a e => Sys2Proof.Machine.execLuuo10 a e s
  | .luuo11 a e => Sys2Proof.Machine.execLuuo11 a e s
  | .luuo12 a e => Sys2Proof.Machine.execLuuo12 a e s
  | .luuo13 a e => Sys2Proof.Machine.execLuuo13 a e s
  | .luuo14 a e => Sys2Proof.Machine.execLuuo14 a e s
  | .luuo15 a e => Sys2Proof.Machine.execLuuo15 a e s
  | .luuo16 a e => Sys2Proof.Machine.execLuuo16 a e s
  | .luuo17 a e => Sys2Proof.Machine.execLuuo17 a e s
  | .luuo20 a e => Sys2Proof.Machine.execLuuo20 a e s
  | .luuo21 a e => Sys2Proof.Machine.execLuuo21 a e s
  | .luuo22 a e => Sys2Proof.Machine.execLuuo22 a e s
  | .luuo23 a e => Sys2Proof.Machine.execLuuo23 a e s
  | .luuo24 a e => Sys2Proof.Machine.execLuuo24 a e s
  | .luuo25 a e => Sys2Proof.Machine.execLuuo25 a e s
  | .luuo26 a e => Sys2Proof.Machine.execLuuo26 a e s
  | .luuo27 a e => Sys2Proof.Machine.execLuuo27 a e s
  | .luuo30 a e => Sys2Proof.Machine.execLuuo30 a e s
  | .luuo31 a e => Sys2Proof.Machine.execLuuo31 a e s
  | .luuo32 a e => Sys2Proof.Machine.execLuuo32 a e s
  | .luuo33 a e => Sys2Proof.Machine.execLuuo33 a e s
  | .luuo34 a e => Sys2Proof.Machine.execLuuo34 a e s
  | .luuo35 a e => Sys2Proof.Machine.execLuuo35 a e s
  | .luuo36 a e => Sys2Proof.Machine.execLuuo36 a e s
  | .luuo37 a e => Sys2Proof.Machine.execLuuo37 a e s
  | .muuo040 lo a e => Sys2Proof.Machine.execMuuo040 lo a e s
  | .muuo100 a e => Sys2Proof.Machine.execMuuo100 a e s
  | .muuo101 a e => Sys2Proof.Machine.execMuuo101 a e s
  | .muuo102 a e => Sys2Proof.Machine.execMuuo102 a e s
  | .muuo103 a e => Sys2Proof.Machine.execMuuo103 a e s
  | .muuo106 a e => Sys2Proof.Machine.execMuuo106 a e s
  | .muuo107 a e => Sys2Proof.Machine.execMuuo107 a e s
  | .muuo247 a e => Sys2Proof.Machine.execMuuo247 a e s
  | .jsys a e => Sys2Proof.Machine.execJsys a e s
  | .adjsp a e => Sys2Proof.Machine.execAdjsp a e s
  | .dfad a e => Sys2Proof.Machine.execDfad a e s
  | .dfsb a e => Sys2Proof.Machine.execDfsb a e s
  | .dfmp a e => Sys2Proof.Machine.execDfmp a e s
  | .dfdv a e => Sys2Proof.Machine.execDfdv a e s
  | .dadd a e => Sys2Proof.Machine.execDadd a e s
  | .dsub a e => Sys2Proof.Machine.execDsub a e s
  | .dmul a e => Sys2Proof.Machine.execDmul a e s
  | .ddiv a e => Sys2Proof.Machine.execDdiv a e s
  | .dmove a e => Sys2Proof.Machine.execDmove a e s
  | .dmovn a e => Sys2Proof.Machine.execDmovn a e s
  | .fix a e => Sys2Proof.Machine.execFix a e s
  | .extend a e => Sys2Proof.Machine.execExtend a e s
  | .dmovem a e => Sys2Proof.Machine.execDmovem a e s
  | .dmovnm a e => Sys2Proof.Machine.execDmovnm a e s
  | .fixr a e => Sys2Proof.Machine.execFixr a e s
  | .fltr a e => Sys2Proof.Machine.execFltr a e s
  | .ufa a e => Sys2Proof.Machine.execUfa a e s
  | .dfn a e => Sys2Proof.Machine.execDfn a e s
  | .fsc a e => Sys2Proof.Machine.execFsc a e s
  | .ibp a e => Sys2Proof.Machine.execIbp a e s
  | .ildb a e => Sys2Proof.Machine.execIldb a e s
  | .ldb a e => Sys2Proof.Machine.execLdb a e s
  | .idpb a e => Sys2Proof.Machine.execIdpb a e s
  | .dpb a e => Sys2Proof.Machine.execDpb a e s
  | .fad a e => Sys2Proof.Machine.execFad a e s
  | .muuo141 a e => Sys2Proof.Machine.execMuuo141 a e s
  | .fadm a e => Sys2Proof.Machine.execFadm a e s
  | .fadb a e => Sys2Proof.Machine.execFadb a e s
  | .fadr a e => Sys2Proof.Machine.execFadr a e s
  | .fadri a e => Sys2Proof.Machine.execFadri a e s
  | .fadrm a e => Sys2Proof.Machine.execFadrm a e s
  | .fadrb a e => Sys2Proof.Machine.execFadrb a e s
  | .fsb a e => Sys2Proof.Machine.execFsb a e s
  | .muuo151 a e => Sys2Proof.Machine.execMuuo151 a e s
  | .fsbm a e => Sys2Proof.Machine.execFsbm a e s
  | .fsbb a e => Sys2Proof.Machine.execFsbb a e s
  | .fsbr a e => Sys2Proof.Machine.execFsbr a e s
  | .fsbri a e => Sys2Proof.Machine.execFsbri a e s
  | .fsbrm a e => Sys2Proof.Machine.execFsbrm a e s
  | .fsbrb a e => Sys2Proof.Machine.execFsbrb a e s
  | .fmp a e => Sys2Proof.Machine.execFmp a e s
  | .muuo161 a e => Sys2Proof.Machine.execMuuo161 a e s
  | .fmpm a e => Sys2Proof.Machine.execFmpm a e s
  | .fmpb a e => Sys2Proof.Machine.execFmpb a e s
  | .fmpr a e => Sys2Proof.Machine.execFmpr a e s
  | .fmpri a e => Sys2Proof.Machine.execFmpri a e s
  | .fmprm a e => Sys2Proof.Machine.execFmprm a e s
  | .fmprb a e => Sys2Proof.Machine.execFmprb a e s
  | .fdv a e => Sys2Proof.Machine.execFdv a e s
  | .muuo171 a e => Sys2Proof.Machine.execMuuo171 a e s
  | .fdvm a e => Sys2Proof.Machine.execFdvm a e s
  | .fdvb a e => Sys2Proof.Machine.execFdvb a e s
  | .fdvr a e => Sys2Proof.Machine.execFdvr a e s
  | .fdvri a e => Sys2Proof.Machine.execFdvri a e s
  | .fdvrm a e => Sys2Proof.Machine.execFdvrm a e s
  | .fdvrb a e => Sys2Proof.Machine.execFdvrb a e s
  | .move a e => Sys2Proof.Machine.execMove a e s
  | .movei a e => Sys2Proof.Machine.execMovei a e s
  | .movem a e => Sys2Proof.Machine.execMovem a e s
  | .moves a e => Sys2Proof.Machine.execMoves a e s
  | .movs a e => Sys2Proof.Machine.execMovs a e s
  | .movsi a e => Sys2Proof.Machine.execMovsi a e s
  | .movsm a e => Sys2Proof.Machine.execMovsm a e s
  | .movss a e => Sys2Proof.Machine.execMovss a e s
  | .movn a e => Sys2Proof.Machine.execMovn a e s
  | .movni a e => Sys2Proof.Machine.execMovni a e s
  | .movnm a e => Sys2Proof.Machine.execMovnm a e s
  | .movns a e => Sys2Proof.Machine.execMovns a e s
  | .movm a e => Sys2Proof.Machine.execMovm a e s
  | .movmi a e => Sys2Proof.Machine.execMovmi a e s
  | .movmm a e => Sys2Proof.Machine.execMovmm a e s
  | .movms a e => Sys2Proof.Machine.execMovms a e s
  | .imul a e => Sys2Proof.Machine.execImul a e s
  | .imuli a e => Sys2Proof.Machine.execImuli a e s
  | .imulm a e => Sys2Proof.Machine.execImulm a e s
  | .imulb a e => Sys2Proof.Machine.execImulb a e s
  | .mul a e => Sys2Proof.Machine.execMul a e s
  | .muli a e => Sys2Proof.Machine.execMuli a e s
  | .mulm a e => Sys2Proof.Machine.execMulm a e s
  | .mulb a e => Sys2Proof.Machine.execMulb a e s
  | .idiv a e => Sys2Proof.Machine.execIdiv a e s
  | .idivi a e => Sys2Proof.Machine.execIdivi a e s
  | .idivm a e => Sys2Proof.Machine.execIdivm a e s
  | .idivb a e => Sys2Proof.Machine.execIdivb a e s
  | .div a e => Sys2Proof.Machine.execDiv a e s
  | .divi a e => Sys2Proof.Machine.execDivi a e s
  | .divm a e => Sys2Proof.Machine.execDivm a e s
  | .divb a e => Sys2Proof.Machine.execDivb a e s
  | .ash a e => Sys2Proof.Machine.execAsh a e s
  | .rot a e => Sys2Proof.Machine.execRot a e s
  | .lsh a e => Sys2Proof.Machine.execLsh a e s
  | .jffo a e => Sys2Proof.Machine.execJffo a e s
  | .ashc a e => Sys2Proof.Machine.execAshc a e s
  | .rotc a e => Sys2Proof.Machine.execRotc a e s
  | .lshc a e => Sys2Proof.Machine.execLshc a e s
  | .exch a e => Sys2Proof.Machine.execExch a e s
  | .blt a e => Sys2Proof.Machine.execBlt a e s
  | .aobjp a e => Sys2Proof.Machine.execAobjp a e s
  | .aobjn a e => Sys2Proof.Machine.execAobjn a e s
  | .jrst e => Sys2Proof.Machine.execJrst e s
  | .portal e => Sys2Proof.Machine.execPortal e s
  | .jrstf e => Sys2Proof.Machine.execJrstf e s
  | .muuoJrst03 e => Sys2Proof.Machine.execMuuoJrst03 e s
  | .halt e => Sys2Proof.Machine.execHalt e s
  | .xjrstf e => Sys2Proof.Machine.execXjrstf e s
  | .xjen e => Sys2Proof.Machine.execXjen e s
  | .xpcw e => Sys2Proof.Machine.execXpcw e s
  | .jrst10 e => Sys2Proof.Machine.execJrst10 e s
  | .muuoJrst11 e => Sys2Proof.Machine.execMuuoJrst11 e s
  | .jen e => Sys2Proof.Machine.execJen e s
  | .muuoJrst13 e => Sys2Proof.Machine.execMuuoJrst13 e s
  | .sfm e => Sys2Proof.Machine.execSfm e s
  | .xjrst e => Sys2Proof.Machine.execXjrst e s
  | .muuoJrst16 e => Sys2Proof.Machine.execMuuoJrst16 e s
  | .muuoJrst17 e => Sys2Proof.Machine.execMuuoJrst17 e s
  | .jfcl a e => Sys2Proof.Machine.execJfcl a e s
  | .xct e => Sys2Proof.Machine.execXct e s
  | .pxct n e => Sys2Proof.Machine.execPxct n e s
  | .map a e => Sys2Proof.Machine.execMap a e s
  | .pushj a e => Sys2Proof.Machine.execPushj a e s
  | .push a e => Sys2Proof.Machine.execPush a e s
  | .pop a e => Sys2Proof.Machine.execPop a e s
  | .popj a e => Sys2Proof.Machine.execPopj a e s
  | .jsr a e => Sys2Proof.Machine.execJsr a e s
  | .jsp a e => Sys2Proof.Machine.execJsp a e s
  | .jsa a e => Sys2Proof.Machine.execJsa a e s
  | .jra a e => Sys2Proof.Machine.execJra a e s
  | .add a e => Sys2Proof.Machine.execAdd a e s
  | .addi a e => Sys2Proof.Machine.execAddi a e s
  | .addm a e => Sys2Proof.Machine.execAddm a e s
  | .addb a e => Sys2Proof.Machine.execAddb a e s
  | .sub a e => Sys2Proof.Machine.execSub a e s
  | .subi a e => Sys2Proof.Machine.execSubi a e s
  | .subm a e => Sys2Proof.Machine.execSubm a e s
  | .subb a e => Sys2Proof.Machine.execSubb a e s
  | .cai a e => Sys2Proof.Machine.execCai a e s
  | .cail a e => Sys2Proof.Machine.execCail a e s
  | .caie a e => Sys2Proof.Machine.execCaie a e s
  | .caile a e => Sys2Proof.Machine.execCaile a e s
  | .caia a e => Sys2Proof.Machine.execCaia a e s
  | .caige a e => Sys2Proof.Machine.execCaige a e s
  | .cain a e => Sys2Proof.Machine.execCain a e s
  | .caig a e => Sys2Proof.Machine.execCaig a e s
  | .cam a e => Sys2Proof.Machine.execCam a e s
  | .caml a e => Sys2Proof.Machine.execCaml a e s
  | .came a e => Sys2Proof.Machine.execCame a e s
  | .camle a e => Sys2Proof.Machine.execCamle a e s
  | .cama a e => Sys2Proof.Machine.execCama a e s
  | .camge a e => Sys2Proof.Machine.execCamge a e s
  | .camn a e => Sys2Proof.Machine.execCamn a e s
  | .camg a e => Sys2Proof.Machine.execCamg a e s
  | .jump a e => Sys2Proof.Machine.execJump a e s
  | .jumpl a e => Sys2Proof.Machine.execJumpl a e s
  | .jumpe a e => Sys2Proof.Machine.execJumpe a e s
  | .jumple a e => Sys2Proof.Machine.execJumple a e s
  | .jumpa a e => Sys2Proof.Machine.execJumpa a e s
  | .jumpge a e => Sys2Proof.Machine.execJumpge a e s
  | .jumpn a e => Sys2Proof.Machine.execJumpn a e s
  | .jumpg a e => Sys2Proof.Machine.execJumpg a e s
  | .skip a e => Sys2Proof.Machine.execSkip a e s
  | .skipl a e => Sys2Proof.Machine.execSkipl a e s
  | .skipe a e => Sys2Proof.Machine.execSkipe a e s
  | .skiple a e => Sys2Proof.Machine.execSkiple a e s
  | .skipa a e => Sys2Proof.Machine.execSkipa a e s
  | .skipge a e => Sys2Proof.Machine.execSkipge a e s
  | .skipn a e => Sys2Proof.Machine.execSkipn a e s
  | .skipg a e => Sys2Proof.Machine.execSkipg a e s
  | .aoj a e => Sys2Proof.Machine.execAoj a e s
  | .aojl a e => Sys2Proof.Machine.execAojl a e s
  | .aoje a e => Sys2Proof.Machine.execAoje a e s
  | .aojle a e => Sys2Proof.Machine.execAojle a e s
  | .aoja a e => Sys2Proof.Machine.execAoja a e s
  | .aojge a e => Sys2Proof.Machine.execAojge a e s
  | .aojn a e => Sys2Proof.Machine.execAojn a e s
  | .aojg a e => Sys2Proof.Machine.execAojg a e s
  | .aos a e => Sys2Proof.Machine.execAos a e s
  | .aosl a e => Sys2Proof.Machine.execAosl a e s
  | .aose a e => Sys2Proof.Machine.execAose a e s
  | .aosle a e => Sys2Proof.Machine.execAosle a e s
  | .aosa a e => Sys2Proof.Machine.execAosa a e s
  | .aosge a e => Sys2Proof.Machine.execAosge a e s
  | .aosn a e => Sys2Proof.Machine.execAosn a e s
  | .aosg a e => Sys2Proof.Machine.execAosg a e s
  | .soj a e => Sys2Proof.Machine.execSoj a e s
  | .sojl a e => Sys2Proof.Machine.execSojl a e s
  | .soje a e => Sys2Proof.Machine.execSoje a e s
  | .sojle a e => Sys2Proof.Machine.execSojle a e s
  | .soja a e => Sys2Proof.Machine.execSoja a e s
  | .sojge a e => Sys2Proof.Machine.execSojge a e s
  | .sojn a e => Sys2Proof.Machine.execSojn a e s
  | .sojg a e => Sys2Proof.Machine.execSojg a e s
  | .sos a e => Sys2Proof.Machine.execSos a e s
  | .sosl a e => Sys2Proof.Machine.execSosl a e s
  | .sose a e => Sys2Proof.Machine.execSose a e s
  | .sosle a e => Sys2Proof.Machine.execSosle a e s
  | .sosa a e => Sys2Proof.Machine.execSosa a e s
  | .sosge a e => Sys2Proof.Machine.execSosge a e s
  | .sosn a e => Sys2Proof.Machine.execSosn a e s
  | .sosg a e => Sys2Proof.Machine.execSosg a e s
  | .setz a e => Sys2Proof.Machine.execSetz a e s
  | .setzi a e => Sys2Proof.Machine.execSetzi a e s
  | .setzm a e => Sys2Proof.Machine.execSetzm a e s
  | .setzb a e => Sys2Proof.Machine.execSetzb a e s
  | .and a e => Sys2Proof.Machine.execAnd a e s
  | .andi a e => Sys2Proof.Machine.execAndi a e s
  | .andm a e => Sys2Proof.Machine.execAndm a e s
  | .andb a e => Sys2Proof.Machine.execAndb a e s
  | .andca a e => Sys2Proof.Machine.execAndca a e s
  | .andcai a e => Sys2Proof.Machine.execAndcai a e s
  | .andcam a e => Sys2Proof.Machine.execAndcam a e s
  | .andcab a e => Sys2Proof.Machine.execAndcab a e s
  | .setm a e => Sys2Proof.Machine.execSetm a e s
  | .xmovei a e => Sys2Proof.Machine.execXmovei a e s
  | .setmm a e => Sys2Proof.Machine.execSetmm a e s
  | .setmb a e => Sys2Proof.Machine.execSetmb a e s
  | .andcm a e => Sys2Proof.Machine.execAndcm a e s
  | .andcmi a e => Sys2Proof.Machine.execAndcmi a e s
  | .andcmm a e => Sys2Proof.Machine.execAndcmm a e s
  | .andcmb a e => Sys2Proof.Machine.execAndcmb a e s
  | .seta a e => Sys2Proof.Machine.execSeta a e s
  | .setai a e => Sys2Proof.Machine.execSetai a e s
  | .setam a e => Sys2Proof.Machine.execSetam a e s
  | .setab a e => Sys2Proof.Machine.execSetab a e s
  | .xor a e => Sys2Proof.Machine.execXor a e s
  | .xori a e => Sys2Proof.Machine.execXori a e s
  | .xorm a e => Sys2Proof.Machine.execXorm a e s
  | .xorb a e => Sys2Proof.Machine.execXorb a e s
  | .ior a e => Sys2Proof.Machine.execIor a e s
  | .iori a e => Sys2Proof.Machine.execIori a e s
  | .iorm a e => Sys2Proof.Machine.execIorm a e s
  | .iorb a e => Sys2Proof.Machine.execIorb a e s
  | .andcb a e => Sys2Proof.Machine.execAndcb a e s
  | .andcbi a e => Sys2Proof.Machine.execAndcbi a e s
  | .andcbm a e => Sys2Proof.Machine.execAndcbm a e s
  | .andcbb a e => Sys2Proof.Machine.execAndcbb a e s
  | .eqv a e => Sys2Proof.Machine.execEqv a e s
  | .eqvi a e => Sys2Proof.Machine.execEqvi a e s
  | .eqvm a e => Sys2Proof.Machine.execEqvm a e s
  | .eqvb a e => Sys2Proof.Machine.execEqvb a e s
  | .setca a e => Sys2Proof.Machine.execSetca a e s
  | .setcai a e => Sys2Proof.Machine.execSetcai a e s
  | .setcam a e => Sys2Proof.Machine.execSetcam a e s
  | .setcab a e => Sys2Proof.Machine.execSetcab a e s
  | .orca a e => Sys2Proof.Machine.execOrca a e s
  | .orcai a e => Sys2Proof.Machine.execOrcai a e s
  | .orcam a e => Sys2Proof.Machine.execOrcam a e s
  | .orcab a e => Sys2Proof.Machine.execOrcab a e s
  | .setcm a e => Sys2Proof.Machine.execSetcm a e s
  | .setcmi a e => Sys2Proof.Machine.execSetcmi a e s
  | .setcmm a e => Sys2Proof.Machine.execSetcmm a e s
  | .setcmb a e => Sys2Proof.Machine.execSetcmb a e s
  | .orcm a e => Sys2Proof.Machine.execOrcm a e s
  | .orcmi a e => Sys2Proof.Machine.execOrcmi a e s
  | .orcmm a e => Sys2Proof.Machine.execOrcmm a e s
  | .orcmb a e => Sys2Proof.Machine.execOrcmb a e s
  | .orcb a e => Sys2Proof.Machine.execOrcb a e s
  | .orcbi a e => Sys2Proof.Machine.execOrcbi a e s
  | .orcbm a e => Sys2Proof.Machine.execOrcbm a e s
  | .orcbb a e => Sys2Proof.Machine.execOrcbb a e s
  | .seto a e => Sys2Proof.Machine.execSeto a e s
  | .setoi a e => Sys2Proof.Machine.execSetoi a e s
  | .setom a e => Sys2Proof.Machine.execSetom a e s
  | .setob a e => Sys2Proof.Machine.execSetob a e s
  | .hll a e => Sys2Proof.Machine.execHll a e s
  | .xhlli a e => Sys2Proof.Machine.execXhlli a e s
  | .hllm a e => Sys2Proof.Machine.execHllm a e s
  | .hlls a e => Sys2Proof.Machine.execHlls a e s
  | .hrl a e => Sys2Proof.Machine.execHrl a e s
  | .hrli a e => Sys2Proof.Machine.execHrli a e s
  | .hrlm a e => Sys2Proof.Machine.execHrlm a e s
  | .hrls a e => Sys2Proof.Machine.execHrls a e s
  | .hllz a e => Sys2Proof.Machine.execHllz a e s
  | .hllzi a e => Sys2Proof.Machine.execHllzi a e s
  | .hllzm a e => Sys2Proof.Machine.execHllzm a e s
  | .hllzs a e => Sys2Proof.Machine.execHllzs a e s
  | .hrlz a e => Sys2Proof.Machine.execHrlz a e s
  | .hrlzi a e => Sys2Proof.Machine.execHrlzi a e s
  | .hrlzm a e => Sys2Proof.Machine.execHrlzm a e s
  | .hrlzs a e => Sys2Proof.Machine.execHrlzs a e s
  | .hllo a e => Sys2Proof.Machine.execHllo a e s
  | .hlloi a e => Sys2Proof.Machine.execHlloi a e s
  | .hllom a e => Sys2Proof.Machine.execHllom a e s
  | .hllos a e => Sys2Proof.Machine.execHllos a e s
  | .hrlo a e => Sys2Proof.Machine.execHrlo a e s
  | .hrloi a e => Sys2Proof.Machine.execHrloi a e s
  | .hrlom a e => Sys2Proof.Machine.execHrlom a e s
  | .hrlos a e => Sys2Proof.Machine.execHrlos a e s
  | .hlle a e => Sys2Proof.Machine.execHlle a e s
  | .hllei a e => Sys2Proof.Machine.execHllei a e s
  | .hllem a e => Sys2Proof.Machine.execHllem a e s
  | .hlles a e => Sys2Proof.Machine.execHlles a e s
  | .hrle a e => Sys2Proof.Machine.execHrle a e s
  | .hrlei a e => Sys2Proof.Machine.execHrlei a e s
  | .hrlem a e => Sys2Proof.Machine.execHrlem a e s
  | .hrles a e => Sys2Proof.Machine.execHrles a e s
  | .hrr a e => Sys2Proof.Machine.execHrr a e s
  | .hrri a e => Sys2Proof.Machine.execHrri a e s
  | .hrrm a e => Sys2Proof.Machine.execHrrm a e s
  | .hrrs a e => Sys2Proof.Machine.execHrrs a e s
  | .hlr a e => Sys2Proof.Machine.execHlr a e s
  | .hlri a e => Sys2Proof.Machine.execHlri a e s
  | .hlrm a e => Sys2Proof.Machine.execHlrm a e s
  | .hlrs a e => Sys2Proof.Machine.execHlrs a e s
  | .hrrz a e => Sys2Proof.Machine.execHrrz a e s
  | .hrrzi a e => Sys2Proof.Machine.execHrrzi a e s
  | .hrrzm a e => Sys2Proof.Machine.execHrrzm a e s
  | .hrrzs a e => Sys2Proof.Machine.execHrrzs a e s
  | .hlrz a e => Sys2Proof.Machine.execHlrz a e s
  | .hlrzi a e => Sys2Proof.Machine.execHlrzi a e s
  | .hlrzm a e => Sys2Proof.Machine.execHlrzm a e s
  | .hlrzs a e => Sys2Proof.Machine.execHlrzs a e s
  | .hrro a e => Sys2Proof.Machine.execHrro a e s
  | .hrroi a e => Sys2Proof.Machine.execHrroi a e s
  | .hrrom a e => Sys2Proof.Machine.execHrrom a e s
  | .hrros a e => Sys2Proof.Machine.execHrros a e s
  | .hlro a e => Sys2Proof.Machine.execHlro a e s
  | .hlroi a e => Sys2Proof.Machine.execHlroi a e s
  | .hlrom a e => Sys2Proof.Machine.execHlrom a e s
  | .hlros a e => Sys2Proof.Machine.execHlros a e s
  | .hrre a e => Sys2Proof.Machine.execHrre a e s
  | .hrrei a e => Sys2Proof.Machine.execHrrei a e s
  | .hrrem a e => Sys2Proof.Machine.execHrrem a e s
  | .hrres a e => Sys2Proof.Machine.execHrres a e s
  | .hlre a e => Sys2Proof.Machine.execHlre a e s
  | .hlrei a e => Sys2Proof.Machine.execHlrei a e s
  | .hlrem a e => Sys2Proof.Machine.execHlrem a e s
  | .hlres a e => Sys2Proof.Machine.execHlres a e s
  | .trn a e => Sys2Proof.Machine.execTrn a e s
  | .tln a e => Sys2Proof.Machine.execTln a e s
  | .trne a e => Sys2Proof.Machine.execTrne a e s
  | .tlne a e => Sys2Proof.Machine.execTlne a e s
  | .trna a e => Sys2Proof.Machine.execTrna a e s
  | .tlna a e => Sys2Proof.Machine.execTlna a e s
  | .trnn a e => Sys2Proof.Machine.execTrnn a e s
  | .tlnn a e => Sys2Proof.Machine.execTlnn a e s
  | .tdn a e => Sys2Proof.Machine.execTdn a e s
  | .tsn a e => Sys2Proof.Machine.execTsn a e s
  | .tdne a e => Sys2Proof.Machine.execTdne a e s
  | .tsne a e => Sys2Proof.Machine.execTsne a e s
  | .tdna a e => Sys2Proof.Machine.execTdna a e s
  | .tsna a e => Sys2Proof.Machine.execTsna a e s
  | .tdnn a e => Sys2Proof.Machine.execTdnn a e s
  | .tsnn a e => Sys2Proof.Machine.execTsnn a e s
  | .trz a e => Sys2Proof.Machine.execTrz a e s
  | .tlz a e => Sys2Proof.Machine.execTlz a e s
  | .trze a e => Sys2Proof.Machine.execTrze a e s
  | .tlze a e => Sys2Proof.Machine.execTlze a e s
  | .trza a e => Sys2Proof.Machine.execTrza a e s
  | .tlza a e => Sys2Proof.Machine.execTlza a e s
  | .trzn a e => Sys2Proof.Machine.execTrzn a e s
  | .tlzn a e => Sys2Proof.Machine.execTlzn a e s
  | .tdz a e => Sys2Proof.Machine.execTdz a e s
  | .tsz a e => Sys2Proof.Machine.execTsz a e s
  | .tdze a e => Sys2Proof.Machine.execTdze a e s
  | .tsze a e => Sys2Proof.Machine.execTsze a e s
  | .tdza a e => Sys2Proof.Machine.execTdza a e s
  | .tsza a e => Sys2Proof.Machine.execTsza a e s
  | .tdzn a e => Sys2Proof.Machine.execTdzn a e s
  | .tszn a e => Sys2Proof.Machine.execTszn a e s
  | .trc a e => Sys2Proof.Machine.execTrc a e s
  | .tlc a e => Sys2Proof.Machine.execTlc a e s
  | .trce a e => Sys2Proof.Machine.execTrce a e s
  | .tlce a e => Sys2Proof.Machine.execTlce a e s
  | .trca a e => Sys2Proof.Machine.execTrca a e s
  | .tlca a e => Sys2Proof.Machine.execTlca a e s
  | .trcn a e => Sys2Proof.Machine.execTrcn a e s
  | .tlcn a e => Sys2Proof.Machine.execTlcn a e s
  | .tdc a e => Sys2Proof.Machine.execTdc a e s
  | .tsc a e => Sys2Proof.Machine.execTsc a e s
  | .tdce a e => Sys2Proof.Machine.execTdce a e s
  | .tsce a e => Sys2Proof.Machine.execTsce a e s
  | .tdca a e => Sys2Proof.Machine.execTdca a e s
  | .tsca a e => Sys2Proof.Machine.execTsca a e s
  | .tdcn a e => Sys2Proof.Machine.execTdcn a e s
  | .tscn a e => Sys2Proof.Machine.execTscn a e s
  | .tro a e => Sys2Proof.Machine.execTro a e s
  | .tlo a e => Sys2Proof.Machine.execTlo a e s
  | .troe a e => Sys2Proof.Machine.execTroe a e s
  | .tloe a e => Sys2Proof.Machine.execTloe a e s
  | .troa a e => Sys2Proof.Machine.execTroa a e s
  | .tloa a e => Sys2Proof.Machine.execTloa a e s
  | .tron a e => Sys2Proof.Machine.execTron a e s
  | .tlon a e => Sys2Proof.Machine.execTlon a e s
  | .tdo a e => Sys2Proof.Machine.execTdo a e s
  | .tso a e => Sys2Proof.Machine.execTso a e s
  | .tdoe a e => Sys2Proof.Machine.execTdoe a e s
  | .tsoe a e => Sys2Proof.Machine.execTsoe a e s
  | .tdoa a e => Sys2Proof.Machine.execTdoa a e s
  | .tsoa a e => Sys2Proof.Machine.execTsoa a e s
  | .tdon a e => Sys2Proof.Machine.execTdon a e s
  | .tson a e => Sys2Proof.Machine.execTson a e s
  | .io r => Sys2Proof.Machine.execIo r s
  | .cmpsl a e0 z e => Sys2Proof.Machine.execCmpsl a e0 z e s
  | .cmpse a e0 z e => Sys2Proof.Machine.execCmpse a e0 z e s
  | .cmpsle a e0 z e => Sys2Proof.Machine.execCmpsle a e0 z e s
  | .edit a e0 z e => Sys2Proof.Machine.execEdit a e0 z e s
  | .cmpsge a e0 z e => Sys2Proof.Machine.execCmpsge a e0 z e s
  | .cmpsn a e0 z e => Sys2Proof.Machine.execCmpsn a e0 z e s
  | .cmpsg a e0 z e => Sys2Proof.Machine.execCmpsg a e0 z e s
  | .cvtdbo a e0 z e => Sys2Proof.Machine.execCvtdbo a e0 z e s
  | .cvtdbt a e0 z e => Sys2Proof.Machine.execCvtdbt a e0 z e s
  | .cvtbdo a e0 z e => Sys2Proof.Machine.execCvtbdo a e0 z e s
  | .cvtbdt a e0 z e => Sys2Proof.Machine.execCvtbdt a e0 z e s
  | .movso a e0 z e => Sys2Proof.Machine.execMovso a e0 z e s
  | .movst a e0 z e => Sys2Proof.Machine.execMovst a e0 z e s
  | .movslj a e0 z e => Sys2Proof.Machine.execMovslj a e0 z e s
  | .movsrj a e0 z e => Sys2Proof.Machine.execMovsrj a e0 z e s
  | .xblt a e0 z e => Sys2Proof.Machine.execXblt a e0 z e s

end Sys2Proof.Machine
end

