-- ==== Sys2Proof/Machine/Step.lean ====
section
/-! DEFINITION. One step: fetch, then execute (spec/47_general.md R412, 20_memory.md R72), and the placing of a word where the next
step fetches it. -/

namespace Sys2Proof.Machine

/-- One instruction (R412): the word at PC is fetched by a local reference and executed with PC section as its section; a page
fail of the fetch is taken (R492). -/
def step (s : State) : Host.Outcome State Fault Refusal :=
  match s.fetch with
  | .ok w => runTop (standardWord s.cfg.opcodes w) (executeWith runWord (standardWord s.cfg.opcodes w)) s
  | .error pf => takeTrap (.pageFail pf) (.start s none)

/-- `s` with the word of the bits `w` (of which `nbits` count) where the next step fetches its instruction: the AC or the physical
word that a local reference to PC denotes (log 40). -/
def State.withFetchWord (s : State) (nbits w : Nat) : State :=
  match s.locate ⟨s.pc, .loc⟩ .cur .fetch with
  | .ok l => s.put l (BitVec.ofNat 36 (w % 2 ^ nbits))
  | .error _ => s

end Sys2Proof.Machine
end

