-- ==== Sys2Proof/Safety.lean ====
section
/-! DEFINITION. What claims about the machine speak of: the invariant of the state, the effective address of the instruction at PC, the
shapes of result that the rules give whole groups of instructions, and the trap entries. -/

namespace Sys2Proof.Machine

/-- The parameters are in their ranges (spec/00_scope.md R5, R6). -/
abbrev configInRange (c : Config) : Prop := 1 ≤ c.nsect ∧ c.nsect ≤ 4096 ∧ c.pcsBits ≤ 12

/-- The invariant: memory in its canonical form (log 3), MODE and the user flag in agreement (log 14), PCS within PCS_BITS
(10_state.md R25), the parameters in range. -/
structure State.Inv (s : State) : Prop where
  /-- the canonical form of memory -/
  mem : Memory.wf s.mem = true
  /-- MODE is USER exactly when FLAGS bit 5 is set -/
  mode : s.mode = modeOf s.flags
  /-- PCS fits its register -/
  pcs : s.pcs.toNat < 2 ^ s.cfg.pcsBits
  /-- the parameters -/
  cfg : configInRange s.cfg

/-- The parts of the state that only a context change or the host sets (10_state.md R33, 60_exceptions.md R490): PCS, PCU, PAB,
CAB; with them the process-table bases and the parameters. -/
def State.context (s : State) : Sec × Bool × BlockNum × BlockNum × Word × Word × Config :=
  (s.pcs, s.pcu, s.pab, s.cab, s.upt, s.ept, s.cfg)

/-- The same part right after a context change out of `s` (R490). -/
def State.contextAfterTrap (s : State) : Sec × Bool × BlockNum × BlockNum × Word × Word × Config :=
  (s.pcsOf s.pcSec, s.mode == .user, s.cab, s.cfg.traps.newCab.getD s.cab, s.upt, s.ept, s.cfg)

/-- One of the entries of the parameter TRAP_LAYOUT (60_exceptions.md R485). -/
def hasEntry (c : Config) (en : TrapEntry) : Prop := c.traps.muuo = some en ∨ c.traps.pageFail = some en

/-- A physical word that an MUUO or a page fail stores into at a fixed place of a process table (60_exceptions.md R485; log 17). -/
def State.trapCell (s : State) (p : Nat) : Prop :=
  ∃ en w t tbl, hasEntry s.cfg en ∧ w ∈ en.words ∧ en.base = .table t ∧ p = (s.tableBase (t.getD tbl)).toNat + w.number

/-- Where the entry of an MUUO or a page fail is a block addressed by a process-table word (60_exceptions.md R487): one of those
block pointers of the parameters. -/
def pointsBlock (c : Config) (b : BlockPointer) : Prop := ∃ en, hasEntry c en ∧ en.base = .block b

/-- A physical word of an LUUO block that is addressed in a fixed space or physically (45_uuo.md R343, 60_exceptions.md R487; log
20). -/
def State.luuoCell (s : State) (p : Nat) : Prop :=
  ∃ lb sp w, s.cfg.traps.luuoBlock = some lb ∧ lb.addressing = .placed sp ∧ w ∈ lb.words ∧
    s.blockPlace sp (s.luuoPointer lb) w.number .write = some (.cell p)

/-- No address is unmapped and no section unimplemented: every reference is admitted. -/
abbrev configAdmitsAll (c : Config) : Prop := c.map = [] ∧ c.nsect = 4096

/-! ## The instruction at PC -/

/-- E of the instruction at PC (40_ea_calc.md R163, with PC section as its default section). -/
def State.eaOf (s : State) (e : AddrFields) : Except EaStop EA := s.eaCalc (.ifiw e) s.pcSec .cur

/-- `x[n] <- v`. -/
abbrev State.setX (s : State) (n : AcNum) (v : Word) : State := s.setAc s.cab n v

/-- `pc <- a`. -/
def State.goto (s : State) (a : Addr) : State := { s with pc := a }

/-- `pc <- pc + 1`, in section. -/
def State.nextPc (s : State) : State := s.goto (s.pcPlus 1)

/-- `k` free values drawn. -/
def State.draw (s : State) (k : Nat) : State := { s with freeCtr := s.freeCtr + k }

/-- AC `n` receives the next free value. -/
def State.setFree (s : State) (n : AcNum) : State := (s.setX n (Config.freeWord s.freeCtr)).draw 1

/-- A reference that reads and writes in the context `c` stands for the place `l`. -/
abbrev State.atIn (s : State) (c : Ctx) (e : EA) (l : Loc) : Prop := s.locate e c .read = .ok l ∧ s.locate e c .write = .ok l

/-- The same in the current context. -/
abbrev State.at (s : State) (e : EA) (l : Loc) : Prop := s.atIn .cur e l

/-- `s` with FLAGS restored from the flags-and-PC word `f`, the mode they give, and the PC at `a` (43_jumps.md R272, R273; log 14, log
15). -/
def State.restored (s : State) (f : Word) (a : Addr) : State :=
  { s with
    flags := restoredFlags s.flags (flagsField s.cfg.flagsLayout f)
    mode := modeOf (restoredFlags s.flags (flagsField s.cfg.flagsLayout f))
    pc := a }

/-- Stepping `e` by Inc is not refused: it is not 7777,,777777 GLOBAL, or the parameter lets that case run (20_memory.md R70; log
47). -/
abbrev State.mayInc (s : State) (e : EA) : Prop := s.cfg.rulings = .run ∨ atTop e = false

/-- Stepping `e` by Inc is refused. -/
abbrev State.topRefused (s : State) (e : EA) : Prop := s.cfg.rulings = .refuse ∧ atTop e = true

/-! ## Chains of address words (40_ea_calc.md R163) -/

/-- In the context `c`, `n` legal indirect words lead the EA-calc from the address word `aw` in section `sec` to `aw'` in `sec'`, the
last word whose left half entered it being `lw` at first and `lw'` then (43_jumps.md R272). -/
def State.chains (s : State) (c : Ctx) : Nat → AddrWord → Sec → Word → AddrWord → Sec → Word → Prop
  | 0, aw, sec, lw, aw', sec', lw' => aw' = aw ∧ sec' = sec ∧ lw' = lw
  | n + 1, aw, sec, _, aw', sec', lw' =>
    ∃ w aw1, aw.ind = true ∧ s.memRead (eaIter aw sec (s.xr aw.idx c)) c = .ok w ∧
      classify w (secOf (eaIter aw sec (s.xr aw.idx c)).addr) = some aw1 ∧
      s.chains c n aw1 (secOf (eaIter aw sec (s.xr aw.idx c)).addr) w aw' sec' lw'

/-- The indirect word that `aw` calls for in section `sec` is illegal: met in a non-zero section with bits 0 and 1 set (R158). -/
def State.meetsIllegal (s : State) (c : Ctx) (aw : AddrWord) (sec : Sec) : Prop :=
  aw.ind = true ∧ secOf (eaIter aw sec (s.xr aw.idx c)).addr ≠ 0 ∧
    ∃ w, s.memRead (eaIter aw sec (s.xr aw.idx c)) c = .ok w ∧ bitAt w 0 = true ∧ bitAt w 1 = true

/-! ## The shapes of the general class (47_general.md R400) -/

/-- The AC operands of the data step: the ACs `a + d`. -/
def State.acOperands (s : State) (a : AcNum) (ins : List AcNum) : List Word := ins.map fun d => s.x (a + d)

/-- The AC results: AC `a + d` receives result `8 + d` of the data step. -/
def State.acResults (s : State) (op : Nat) (args : List Word) (a : AcNum) (outs : List AcNum) : State :=
  outs.foldl (fun t d => t.setX (a + d) (Config.dataResult op (8 + d.toNat) args)) s

/-- The flags a data step leaves, and the PC. -/
def State.dataEnd (s : State) (op : Nat) (args : List Word) (pc : Addr) : State :=
  { s with flags := mergeFlags s.flags (Config.dataFlags op args), pc := pc }

/-- The next instruction, or, if the instruction is a skip and its condition holds, the one after (43_jumps.md R282). -/
def State.pcAfter (s : State) (op : Nat) (args : List Word) (skips : Bool) : Addr :=
  s.pcPlus (if skips && Config.dataCond op args then 2 else 1)

/-- The immediate form (R393): the operand is `0,,off(E)`, no reference is made. -/
def ImmForm (ins outs : List AcNum) (skips : Bool) (p : Nat × (AcNum → AddrFields → Instr)) : Prop :=
  ∀ a e s ea, s.eaOf e = .ok ea →
    let args := s.acOperands a ins ++ [join 0 (offOf ea.addr)]
    exec (p.2 a e) s = .next ((s.acResults p.1 args a outs).dataEnd p.1 args (s.pcAfter p.1 args skips))

/-- The form with no suffix: reads E. `sparesAc0`: AC 0 is not loaded (R397). -/
def ReadForm (ins outs : List AcNum) (sparesAc0 skips : Bool) (p : Nat × (AcNum → AddrFields → Instr)) : Prop :=
  ∀ a e s ea l, s.eaOf e = .ok ea → s.locate ea .cur .read = .ok l →
    let args := s.acOperands a ins ++ [s.get l]
    exec (p.2 a e) s = .next ((if sparesAc0 = true ∧ a = 0 then s else s.acResults p.1 args a outs).dataEnd p.1 args
      (s.pcAfter p.1 args skips))

/-- The two-word form: reads E and `Inc(E)`. -/
def Read2Form (ins outs : List AcNum) (p : Nat × (AcNum → AddrFields → Instr)) : Prop :=
  ∀ a e s ea l1 l2, s.eaOf e = .ok ea → s.locate ea .cur .read = .ok l1 →
    (s.topRefused ea → exec (p.2 a e) s = .refused .addressTop) ∧
    (s.mayInc ea → s.locate (inc ea) .cur .read = .ok l2 →
    let args := s.acOperands a ins ++ [s.get l1, s.get l2]
    exec (p.2 a e) s = .next ((s.acResults p.1 args a outs).dataEnd p.1 args (s.pcPlus 1)))

/-- The M form: writes E. -/
def WriteForm (ins : List AcNum) (p : Nat × (AcNum → AddrFields → Instr)) : Prop :=
  ∀ a e s ea l, s.eaOf e = .ok ea → s.locate ea .cur .write = .ok l →
    let args := s.acOperands a ins
    exec (p.2 a e) s = .next ((s.put l (Config.dataResult p.1 0 (s.get l :: args))).dataEnd p.1 args (s.pcPlus 1))

/-- The two-word M form: writes E and `Inc(E)`. -/
def Write2Form (ins : List AcNum) (p : Nat × (AcNum → AddrFields → Instr)) : Prop :=
  ∀ a e s ea l1 l2, s.eaOf e = .ok ea → s.locate ea .cur .write = .ok l1 →
    (s.topRefused ea → exec (p.2 a e) s = .refused .addressTop) ∧
    (s.mayInc ea → s.locate (inc ea) .cur .write = .ok l2 →
    let args := s.acOperands a ins
    let s1 := s.put l1 (Config.dataResult p.1 0 (s.get l1 :: args))
    exec (p.2 a e) s = .next ((s1.put l2 (Config.dataResult p.1 1 (s1.get l2 :: args))).dataEnd p.1 args (s.pcPlus 1)))

/-- The S and B forms: read and write E, the result also in the AC; `sparesAc0`: not when it is AC 0. -/
def BothForm (ins outs : List AcNum) (sparesAc0 skips : Bool) (p : Nat × (AcNum → AddrFields → Instr)) : Prop :=
  ∀ a e s ea l, s.eaOf e = .ok ea → s.at ea l →
    let args := s.acOperands a ins ++ [s.get l]
    let s1 := s.put l (Config.dataResult p.1 0 (s.get l :: args))
    exec (p.2 a e) s = .next ((if sparesAc0 = true ∧ a = 0 then s1 else s1.acResults p.1 args a outs).dataEnd p.1 args
      (s.pcAfter p.1 args skips))

/-- The conditional jump (43_jumps.md R283). -/
def JumpForm (outs : List AcNum) (p : Nat × (AcNum → AddrFields → Instr)) : Prop :=
  ∀ a e s ea, s.eaOf e = .ok ea →
    exec (p.2 a e) s = .next ((s.acResults p.1 [s.x a] a outs).dataEnd p.1 [s.x a]
      (if Config.dataCond p.1 [s.x a] then ea.addr else s.pcPlus 1))

/-! ## Byte pointers -/

/-- The pointer at the reference `ea`, read in the current context, has position `p` and size `sz` and addresses the word `be`
(30_encoding.md R108 to R111, 41_byte.md R204); `k`, `w1`, `w2` are its format and words. -/
def State.pointsTo (s : State) (ea : EA) (k : BpKind) (w1 w2 : Word) (p sz : Nat) (be : EA) : Prop :=
  s.memRead ea .cur = .ok w1 ∧ decodeBP w1 (secOf ea.addr) = k ∧
  match k with
  | .oneLocal =>
    w2 = 0 ∧ p = (bpP w1).toNat ∧ sz = (bpS w1).toNat ∧ s.eaCalc (.ifiw (fieldsOf w1)) (secOf ea.addr) .cur = .ok be
  | .oneGlobal => w2 = 0 ∧ owgbpDecode s.cfg.owgbp (bpP w1).toNat = some (p, sz) ∧ be = ⟨addrOf w1, .glob⟩
  | .twoGlobal =>
    s.mayInc ea ∧ s.memRead (inc ea) .cur = .ok w2 ∧ p = (bpP w1).toNat ∧ sz = (bpS w1).toNat ∧
      ∃ aw, classify w2 (secOf (inc ea).addr) = some aw ∧ s.eaCalc aw (secOf (inc ea).addr) .cur = .ok be

/-- `s1` is `s` with the pointer at `ea` stepped by IncBP and written back (41_byte.md R208, R211). -/
def State.stepsPointer (s s1 : State) (ea : EA) (k : BpKind) : Prop :=
  ∃ w1 w2 w1' w2' l1, s.memRead ea .cur = .ok w1 ∧ decodeBP w1 (secOf ea.addr) = k ∧
    (if k = .twoGlobal then s.mayInc ea ∧ s.memRead (inc ea) .cur = .ok w2 else w2 = 0) ∧
    incBP s.cfg k w1 w2 = .ok (w1', w2') ∧ s.locate ea .cur .write = .ok l1 ∧
    (if k = .twoGlobal ∧ w2' ≠ w2 then ∃ l2, s.locate (inc ea) .cur .write = .ok l2 ∧ s1 = (s.put l1 w1').put l2 w2'
     else s1 = s.put l1 w1') ∧
    -- the words written are the words the instruction goes on with
    s1.memRead ea .cur = .ok w1' ∧ decodeBP w1' (secOf ea.addr) = k ∧
    (k = .twoGlobal → s1.memRead (inc ea) .cur = .ok w2')

/-- A one-word local pointer with neither index nor indirection and a byte inside the word's width each way. -/
abbrev plainPointer (w : Word) : Prop :=
  (bpP w).toNat ≤ 36 ∧ (bpS w).toNat ≤ 36 ∧ bitAt w 12 = false ∧ (fieldsOf w).i = false ∧ (fieldsOf w).x = 0

/-! ## Stack pointers -/

/-- The pointer in AC `a` may be stepped up: neither its count (44_stack.md R318; log 33) nor the top of the addresses (R313; log 47)
stops it. -/
abbrev State.mayStep (s : State) (a : AcNum) : Prop :=
  (s.cfg.stackOverflow = .continue ∨ spGlobal s.pcSec (s.x a) = true ∨ lh (s.x a) ≠ 0o777777) ∧
  (s.cfg.rulings = .run ∨ spGlobal s.pcSec (s.x a) = false ∨ addrOf (s.x a) ≠ 0o7777777777)

/-! ## Copies -/

/-- `n` words copied one after the other, from context `cs` to context `cd`, each read before it is written; `next` steps both
addresses. -/
def State.copy (cs cd : Ctx) (next : EA → EA) : Nat → EA → EA → State → Except PageFail State
  | 0, _, _, s => .ok s
  | n + 1, src, dst, s =>
    match s.memRead src cs with
    | .error pf => .error pf
    | .ok v =>
      match s.memWrite dst cd v with
      | .error pf => .error pf
      | .ok s1 => s1.copy cs cd next n (next src) (next dst)

/-- No reference through `e` in the context `c` stands for AC `a`, `a+1` or `a+2` of the current block (46_blt_xblt.md R370). -/
def State.sparesOwn (s : State) (a : AcNum) (e : EA) (c : Ctx) (acc : Access) : Prop :=
  ∀ n, s.locate e c acc = .ok (.ac s.cab n) → n ≠ a ∧ n ≠ a + 1 ∧ n ≠ a + 2

/-- What an XBLT of a non-negative count leaves when its streams, read in context `cs` and written in `cd`, spare its own ACs and, if
that is refused (log 47), do not pass 7777,,777777 (46_blt_xblt.md R370): `s1`. -/
def State.xblts (s s1 : State) (a : AcNum) (cs cd : Ctx) : Prop :=
  bitAt (s.x a) 0 = false ∧
  (s.cfg.rulings = .run ∨ ((addrOf (s.x (a + 1))).toNat + (s.x a).toNat ≤ 2 ^ 30 ∧
    (addrOf (s.x (a + 2))).toNat + (s.x a).toNat ≤ 2 ^ 30)) ∧
  (∀ k, k < (s.x a).toNat →
    s.sparesOwn a (incGlobal^[k] ⟨addrOf (s.x (a + 1)), .glob⟩) cs .read ∧
    s.sparesOwn a (incGlobal^[k] ⟨addrOf (s.x (a + 2)), .glob⟩) cd .write) ∧
  ∃ s0, s.copy cs cd incGlobal (s.x a).toNat ⟨addrOf (s.x (a + 1)), .glob⟩ ⟨addrOf (s.x (a + 2)), .glob⟩ = .ok s0 ∧
    s1 = ((s0.setX (a + 1) (wordOfAddr (addrOf (s.x (a + 1)) + addrOf (s.x a)))).setX (a + 2)
      (wordOfAddr (addrOf (s.x (a + 2)) + addrOf (s.x a)))).setX a 0

/-! ## The previous context (48_xct_pxct.md) -/

/-- The default section of a context. -/
def State.ctxSec (s : State) : Ctx → Sec
  | .cur => s.pcSec
  | .prev => s.pcs

/-- A reference made in previous context to an address computed in current context: a local one takes PCS as its section (R448). -/
def State.toPrev (s : State) (e : EA) : EA := if e.flag = .loc then ⟨mkAddr s.pcs (offOf e.addr), .loc⟩ else e

/-! ## Strings (42_extend.md) -/

/-- `s1` is `s` with the pointer in AC `k`, whose string is in the context `c`, stepped by IncBP; the stepped pointer has position `p`
and size `sz` and addresses the word `be` (42_extend.md R234 to R236, R239, R243). -/
def State.stepsString (s s1 : State) (c : Ctx) (k : AcNum) (p sz : Nat) (be : EA) : Prop :=
  ∃ w1 w2, incBP s.cfg (decodeBP (s.x k) (s.ctxSec c)) (s.x k) (s.x (k + 1)) = .ok (w1, w2) ∧
    decodeBP w1 (s.ctxSec c) = decodeBP (s.x k) (s.ctxSec c) ∧ bpFields s.cfg (decodeBP w1 (s.ctxSec c)) w1 = .ok (p, sz) ∧
    match decodeBP w1 (s.ctxSec c) with
    | .oneLocal => s1 = s.setX k w1 ∧ s1.eaCalc (.ifiw (fieldsOf w1)) (s.ctxSec c) c = .ok be
    | .oneGlobal => s1 = s.setX k w1 ∧ be = ⟨addrOf w1, .glob⟩
    | .twoGlobal => s1 = (s.setX k w1).setX (k + 1) w2 ∧
        ∃ aw, classify w2 (s.ctxSec c) = some aw ∧ s1.eaCalc aw (s.ctxSec c) c = .ok be

/-- One round of MOVSLJ from `s` to `t` (42_extend.md R239), source in context `cs`, destination in `cd`: a source byte, or the fill
where no source is left, goes to the next destination byte. -/
def State.movsljRound (a : AcNum) (cs cd : Ctx) (fill : Word) (s t : State) : Prop :=
  ∃ b s1 s2 p sz be l,
    (if s.x a = 0 then b = fill ∧ s1 = s
     else ∃ s0 p0 sz0 be0 l0, s.stepsString s0 cs (a + 1) p0 sz0 be0 ∧ s0.locate be0 cs .read = .ok l0 ∧
       b = byteOf p0 sz0 (s0.get l0) ∧ s1 = s0.setX a (s0.x a - 1)) ∧
    s1.stepsString s2 cd (a + 4) p sz be ∧ s2.atIn cd be l ∧
    t = (s2.put l (depositByte p sz (s2.get l) b)).setX (a + 3) ((s2.put l (depositByte p sz (s2.get l) b)).x (a + 3) - 1)

/-- `n` rounds, each begun with a destination length other than 0. -/
def State.movsljRuns (a : AcNum) (cs cd : Ctx) (fill : Word) : Nat → State → State → Prop
  | 0, s, t => t = s
  | n + 1, s, t => s.x (a + 3) ≠ 0 ∧ ∃ s1, s.movsljRound a cs cd fill s1 ∧ s1.movsljRuns a cs cd fill n t

/-- The AC block A to A+5 replaced by `vs`, and the next instruction or the one after (log 27). -/
def State.stringDone (s : State) (a : AcNum) (vs : AcNum → Word) (skip : Bool) : State :=
  (([0, 1, 2, 3, 4, 5] : List AcNum).foldl (fun t d => t.setX (a + d) (vs d)) s).goto (s.pcPlus (if skip then 2 else 1))

/-- A string instruction with nothing to move ends with free values in its AC block and in its skip, and nothing else changed. -/
def EmptyStringForm (i : Instr) (a : AcNum) (s : State) : Prop :=
  ∃ vs skip k, exec i s = .next ((s.stringDone a vs skip).draw k)

/-- `t` is a page fail taken out of `s` when nothing but ACs of the current block had been written. -/
def State.pageFails (s t : State) : Prop :=
  ∃ (m : Mach) (pf : PageFail), (∀ l ∈ m.log, ∃ n, l = .ac s.cab n) ∧ m.st.mem = s.mem ∧ m.st.flags = s.flags ∧
    m.st.mode = s.mode ∧ m.st.pc = s.pc ∧ m.st.context = s.context ∧ takeTrap (.pageFail pf) m = .next t

/-! ## Traps to the monitor -/

/-- Physical words `base` + k hold `ws` in `t`, and every other one what it held in `s`. -/
def State.storedAt (s t : State) (base : Nat) (ws : List (Nat × Word)) : Prop :=
  (∀ w ∈ ws, Memory.read t.mem (base + w.1) = w.2) ∧
  ∀ p, (∀ w ∈ ws, p ≠ base + w.1) → Memory.read t.mem p = Memory.read s.mem p

/-- `t` is the entry of an event out of `s` that stores `ws` in physical words from `base` on and takes the new PC from the physical word
`newPc` (60_exceptions.md R485, R490, R493). -/
def State.enteredAt (s t : State) (base : Nat) (ws : List (Nat × Word)) (newPc : Nat) : Prop :=
  s.storedAt t base ws ∧ t.pc = addrOf (Memory.read t.mem newPc) ∧
  t.mode = .exec ∧ userFlag t.flags = false ∧ userIoFlag t.flags = userFlag s.flags ∧
  t.context = s.contextAfterTrap ∧ t.acs = s.acs

/-- The numbers of a layout's words are apart. -/
abbrev apart (ws : List TrapWord) : Prop := (ws.map TrapWord.number).Nodup

/-- An entry whose words and new PC are physical: in a process table, or in a block addressed physically. -/
abbrev State.entersPhysically (s : State) (en : TrapEntry) (t : Table) : Prop :=
  (s.blockBase en.base t).1 = none ∧ (s.blockBase en.newPc.base t).1 = none ∧ apart en.words

/-! ## The KL10's sketches (60_exceptions.md R486, R488, 45_uuo.md R342, R343; log 17) -/

/-- Stores a word in a physical word. -/
def State.setCell (s : State) (p : Nat) (v : Word) : State := s.put (.cell p) v

/-- The word `k` of the UPT. -/
def State.uptCell (s : State) (k : Nat) : Nat := s.upt.toNat + k

/-- The flags in the left half; in the right half the opcode in bits 18-26 and the AC field in bits 27-30. -/
def State.flagsAndOpcode (s : State) (op : BitVec 9) (a : AcNum) : Word :=
  let c := implemented s.cfg.opcodes op a
  flagsPC s.cfg.flagsLayout s.flags (c.1 ++ c.2 ++ (0 : BitVec 5))

/-- What an MUUO leaves by the sketch of R488: UPT 424 flags, opcode and AC field; 425 PC+1; 426 ConvE(E); 427 the process-context word;
the new PC from bits 6-35 of UPT 430, 432, 434 or 436, by mode and public flag. -/
def State.enterMuuo (s : State) (op : BitVec 9) (a : AcNum) (e : EA) : State :=
  let s' := s.setCell (s.uptCell 0o424) (s.flagsAndOpcode op a)
  let s' := s'.setCell (s.uptCell 0o425) (wordOfAddr (s.pcPlus 1))
  let s' := s'.setCell (s.uptCell 0o426) (wordOfAddr (convE e))
  let s' := s'.setCell (s.uptCell 0o427) (Config.processContextWord s.cab s.pab s.pcs)
  let new := 0o430 + (if s.mode = .user then 4 else 0) + (if publicFlag s.flags then 2 else 0)
  s'.changeContext (addrOf (s'.get (.cell (s.uptCell new))))

/-- What a page fail leaves by the sketch of R486: UPT 500 the user bit in bit 0, a free code in bits 1-5 and ConvE of the reference in
bits 6-35; 501 the flags with right half zero; 502 the old PC; the new PC from bits 6-35 of 503. -/
def State.enterPageFail (s : State) (pf : PageFail) : State :=
  let s' := s.setCell (s.uptCell 0o500)
    (BitVec.ofBool (s.space pf.ctx == .user) ++ Config.pageFailCode s.freeCtr ++ convE pf.ref)
  let s' := s'.setCell (s.uptCell 0o501) (flagsPC s.cfg.flagsLayout s.flags 0)
  let s' := s'.setCell (s.uptCell 0o502) (wordOfAddr s.pc)
  s'.changeContext (addrOf (s'.get (.cell (s.uptCell 0o503))))

/-- An opcode that is an MUUO (45_uuo.md R346): after its EA-calc it enters the monitor. -/
def MuuoForm (p : BitVec 9 × (AcNum → AddrFields → Instr)) : Prop :=
  ∀ a e s ea, s.eaOf e = .ok ea → s.cfg.traps.muuo = some .muuoSketch → exec (p.2 a e) s = .next (s.enterMuuo p.1 a ea)

/-- A JRST function that is an MUUO in the states `when` (43_jumps.md R286, 60_exceptions.md R496). -/
def MuuoFnForm (when : State → Prop) (p : AcNum × (AddrFields → Instr)) : Prop :=
  ∀ e s ea, s.eaOf e = .ok ea → when s → s.cfg.traps.muuo = some .muuoSketch → exec (p.2 e) s = .next (s.enterMuuo 0o254 p.1 ea)

end Sys2Proof.Machine
end

