-- ==== Sys2Proof/Certificates/Slice0/Obligations.lean ====
section
/-! DEFINITION. The statements for the provers (OBLIGATIONS.json), each a proposition about the model; helper vocabulary in Safety.lean. -/

open Sys2Proof Sys2Proof.Machine

/-- For every well-formed instruction that is an instruction word, decoding its encoding gives it back, with every field at
every value; for every extended instruction, the word it is encoded as, found at some E0, selects it again under the same AC
field. (30_encoding.md section 10.) -/
def Obligations.DecodeEncode : Prop :=
  (∀ i : Instr, i.wellFormed = true → i.extendAc = none → decode (encode i) = i) ∧
  (∀ (i : Instr) (a : AcNum), i.extendAc = some a → ∃ e0, decodeExt a e0 (encode i) = some i)

/-- Every 36-bit word decodes to a well-formed instruction word whose encoding is that word, so no bit of a word is dropped
and no two instructions share a word; an extended opcode word that selects an instruction is its encoding. (30_encoding.md
section 10.) -/
def Obligations.EncodeDecode : Prop :=
  (∀ w : Word, encode (decode w) = w ∧ (decode w).wellFormed = true ∧ (decode w).extendAc = none) ∧
  (∀ (a : AcNum) (e0 : EA) (w : Word) (i : Instr), decodeExt a e0 w = some i → encode i = w ∧ i.extendAc = some a)

/-- Eighteen words, written field by field from the encoding tables (opcode, AC field, I, X, Y), decode to the instructions
they stand for: one or two of each family. (30_encoding.md section 1, 30_encoding.md section 10.) -/
def Obligations.DecodesWrittenWords : Prop :=
  decode 0o200040000006 = .move 1 ⟨false, 0, 0o6⟩ ∧ decode 0o201757777777 = .movei 0o17 ⟨false, 0o17, 0o777777⟩ ∧
  decode 0o120060000200 = .dmove 1 ⟨true, 0, 0o200⟩ ∧ decode 0o270102000001 = .add 2 ⟨false, 2, 1⟩ ∧
  decode 0o144040000300 = .fadr 1 ⟨false, 0, 0o300⟩ ∧ decode 0o403140000006 = .setzb 3 ⟨false, 0, 6⟩ ∧
  decode 0o501040000006 = .xhlli 1 ⟨false, 0, 6⟩ ∧ decode 0o622100400000 = .trze 2 ⟨false, 0, 0o400000⟩ ∧
  decode 0o334040000200 = .skipa 1 ⟨false, 0, 0o200⟩ ∧ decode 0o242040777777 = .lsh 1 ⟨false, 0, 0o777777⟩ ∧
  decode 0o326740000100 = .jumpn 0o17 ⟨false, 0, 0o100⟩ ∧ decode 0o135060000400 = .ldb 1 ⟨true, 0, 0o400⟩ ∧
  decode 0o254640000200 = .xjrst ⟨false, 0, 0o200⟩ ∧ decode 0o261740000400 = .push 0o17 ⟨false, 0, 0o400⟩ ∧
  decode 0o256140000300 = .pxct 3 ⟨false, 0, 0o300⟩ ∧ decode 0o001000000010 = .luuo01 0 ⟨false, 0, 0o10⟩ ∧
  decode 0o077040000001 = .muuo040 0o37 1 ⟨false, 0, 1⟩ ∧
  decodeExt 1 ⟨0, .loc⟩ 0o016000000000 = some (.movslj 1 ⟨0, .loc⟩ 0 ⟨false, 0, 0⟩)

/-- Where the fetch at PC yields a word, the step is exec of the instruction the word decodes to, at the same state, its
codes first put into the numbers of the opcode table where the parameter OPCODES renumbers any (log 45); where it renumbers
none, the word is decoded as it is. Where the fetch page fails, the step takes that page fail. (47_general.md section 1,
20_memory.md section 4.) -/
def Obligations.StepRunsDecoded : Prop :=
  (∀ (s : State) (w : Word), s.fetch = .ok w → step s = exec (decode (standardWord s.cfg.opcodes w)) s) ∧
  (∀ (o : Opcodes) (w : Word), o.ops = [] → o.jrst = [] → standardWord o w = w) ∧
  (∀ (s : State) (pf : PageFail), s.fetch = .error pf → s.cfg.traps.pageFail = some .pageFailSketch →
    step s = .next (s.enterPageFail pf))

/-- The state after reset, whose values the model chose (log 2), has memory in canonical form, MODE in agreement with the
user flag, PCS within its width, and the parameters in range. (R530, 10_state.md section 1.) -/
def Obligations.ResetInv : Prop :=
  State.reset.Inv

/-- From every state that meets the invariant (memory canonical, log 3; MODE exactly the user flag, log 14; PCS within
PCS_BITS; parameters in range), every step that gives a next state gives one that meets it. (10_state.md section 1,
60_exceptions.md section 3.) -/
def Obligations.StepKeepsInv : Prop :=
  ∀ s t : State, s.Inv → step s = .next t → t.Inv

/-- A step leaves PCS, PCU, PAB, CAB, the process-table bases and the parameters alone, or it is a context change into exec
mode that leaves PCS the old PC section, PCU whether the old mode was user, PAB the old CAB, and CAB what the parameter
newCab says (log 18). (10_state.md section 1, 60_exceptions.md section 3.) -/
def Obligations.ContextChangesOnlyByTrap : Prop :=
  ∀ s t : State, step s = .next t →
    t.context = s.context ∨ (t.context = s.contextAfterTrap ∧ t.mode = .exec)

/-- From a user-mode state that meets the invariant, a step stays in user mode, or it is a context change: exec mode, PCU
set, PAB the old AC block, PCS the old PC section, USER clear and bit 6 set in the flags (log 19); that the context change
sets PCU, PAB and PCS so is the model's choice, log 18 (R33 leaves these rules out), and that no flag restore leaves user
mode is log 15. (60_exceptions.md section 4, 10_state.md section 1.) -/
def Obligations.UserModeLeftOnlyByTrap : Prop :=
  ∀ s t : State, s.Inv → s.mode = .user → step s = .next t →
    t.mode = .user ∨ (t.mode = .exec ∧ t.pcu = true ∧ t.pab = s.cab ∧ t.pcs = s.pcsOf s.pcSec ∧
      userFlag t.flags = false ∧ userIoFlag t.flags = true)

/-- A user-mode step leaves every AC of every other block alone, and a physical word it changes is one the user space maps
for writing, a word that TRAP_LAYOUT has an MUUO or a page fail store at a fixed place of a process table (log 17), where the
LUUO block is addressed in a fixed space or physically (log 20) a word that TRAP_LAYOUT has an LUUO store in it, or, where an
entry goes through a block in a virtual space (R487), a word that space maps for writing (the parameters whose MUUO or
page-fail block is addressed physically are left out of this clause: MuuoEntry and PageFailEntry name the words of such a
block). In either mode every AC of a block that is neither the current nor the previous one is left alone. (20_memory.md
section 1, 48_xct_pxct.md section 2, 10_state.md section 1.) -/
def Obligations.StepsStayInTheirSpace : Prop :=
  (∀ s t : State, s.mode = .user → step s = .next t →
     (∀ (b : BlockNum) (n : AcNum), b ≠ s.cab → t.ac b n = s.ac b n) ∧
     ((∀ b, pointsBlock s.cfg b → b.space ≠ none) → ∀ p, Memory.read t.mem p ≠ Memory.read s.mem p →
       s.trapCell p ∨ s.luuoCell p ∨
       (∃ a, a < 2 ^ 30 ∧ mapLookup .user a .write s.cfg.map = some p) ∨
       (∃ b sp a, pointsBlock s.cfg b ∧ b.space = some sp ∧ mapLookup sp a .write s.cfg.map = some p))) ∧
  (∀ s t : State, step s = .next t → ∀ (b : BlockNum) (n : AcNum), b ≠ s.cab → b ≠ s.pab ∨ s.mode = .user →
     t.ac b n = s.ac b n)

/-- A reference is an AC exactly when its in-section part is 0 to 17 octal and it is local, or global with section 1; it is
then AC off(a) of the block of its context, whatever the section and the space; any other reference never denotes an AC. That
a global reference to 0,,0 to 0,,17 is no AC is the spec's own inference and decision (R83, D21; log 39). (20_memory.md
section 2.) -/
def Obligations.AcReferences : Prop :=
  (∀ (a : Addr) (f : RefFlag), isAcRef ⟨a, f⟩ = true ↔
    (f = .loc ∧ (offOf a).toNat ≤ 0o17) ∨ (f = .glob ∧ secOf a = 1 ∧ (offOf a).toNat ≤ 0o17)) ∧
  (∀ e : EA, isAcRef e = true → (acNumOf e).toNat = (offOf e.addr).toNat) ∧
  (∀ (s : State) (e : EA) (c : Ctx) (acc : Access), isAcRef e = true →
    s.locate e c acc = .ok (.ac (match c with | .cur => s.cab | .prev => s.pab) (acNumOf e))) ∧
  (∀ (s : State) (e : EA) (c : Ctx) (acc : Access) (b : BlockNum) (n : AcNum), isAcRef e = false →
    s.locate e c acc ≠ .ok (.ac b n))

/-- Incrementing a local address steps its in-section part modulo 2^18 and keeps the section; incrementing a global address
below 7777,,777777 adds 1 to all 30 bits; both keep the flag; a BLT steps within the section whatever the flag. (20_memory.md
section 3, 46_blt_xblt.md section 1.) -/
def Obligations.Increment : Prop :=
  (∀ (s : Sec) (n : Half), inc ⟨mkAddr s n, .loc⟩ = ⟨mkAddr s (n + 1), .loc⟩) ∧
  (∀ a : Addr, a.toNat < 2 ^ 30 - 1 → inc ⟨a, .glob⟩ = ⟨BitVec.ofNat 30 (a.toNat + 1), .glob⟩) ∧
  (∀ e : EA, (inc e).flag = e.flag) ∧
  (∀ (s : Sec) (n : Half) (f : RefFlag), incLocal ⟨mkAddr s n, f⟩ = ⟨mkAddr s (n + 1), f⟩)

/-- With bits 18-35 of PC in 0 to 17 octal the instruction comes from that AC of the current block in every section and mode;
else it comes from the word the fetch of PC in the current space stands for. That the word is looked up with an access of its
own kind, a fetch, is the model's choice (log 5; R72 writes it as a read). (20_memory.md section 4, 20_memory.md section 9.)
-/
def Obligations.FetchIsLocal : Prop :=
  (∀ s : State, (offOf s.pc).toNat ≤ 0o17 → s.fetch = .ok (s.x ((offOf s.pc).setWidth 4))) ∧
  (∀ (s : State) (p : Nat), 0o17 < (offOf s.pc).toNat → (secOf s.pc).toNat < s.cfg.nsect →
    mapLookup (s.space .cur) s.pc.toNat .fetch s.cfg.map = some p → s.fetch = .ok (Memory.read s.mem p))

/-- A reference that is no AC and whose section is at or above NSECT page fails, reading or writing, in either context; a
MOVE from it takes that page fail. (R74.) -/
def Obligations.UnimplementedSectionPageFails : Prop :=
  (∀ (s : State) (e : EA) (c : Ctx) (v : Word), isAcRef e = false → s.cfg.nsect ≤ (secOf e.addr).toNat →
    s.memRead e c = .error ⟨e, c, .noSection⟩ ∧ s.memWrite e c v = .error ⟨e, c, .noSection⟩) ∧
  (∀ (a : AcNum) (e : AddrFields) (s : State) (ea : EA), s.eaOf e = .ok ea → isAcRef ea = false →
    s.cfg.nsect ≤ (secOf ea.addr).toNat → s.cfg.traps.pageFail = some .pageFailSketch →
    exec (.move a e) s = .next (s.enterPageFail ⟨ea, .cur, .noSection⟩))

/-- After a write through a reference that stands for the same place when read as when written, a read through it gives the
value written, and a read through any reference that denotes another place gives what it gave before. (Map may send a read
and a write of one address to different words, R84; log 4.) (20_memory.md section 6, 20_memory.md section 9, 20_memory.md
section 10.) -/
def Obligations.WriteThenRead : Prop :=
  ∀ (s t : State) (e : EA) (c : Ctx) (v : Word), Memory.wf s.mem = true → s.memWrite e c v = .ok t →
    (∀ l, s.atIn c e l → t.memRead e c = .ok v) ∧
    (∀ e' c' l l', s.locate e c .write = .ok l → s.locate e' c' .read = .ok l' → l' ≠ l →
      t.memRead e' c' = s.memRead e' c')

/-- With no index an IFIW gives its section and Y, local, an EFIW its Y, global; with a local index an IFIW gives the section
and Y plus the right half of the index modulo 2^18, local; with a global index Y sign-extended to 30 bits plus bits 6-35
modulo 2^30, global; an EFIW always adds bits 6-35 modulo 2^30, global. That the sums are taken modulo 2^18 and modulo 2^30
is the spec's decision D9 in R155, R156 and R157 (log 39). (40_ea_calc.md section 2.) -/
def Obligations.EaCalcIteration : Prop :=
  ∀ (s : State) (sec : Sec) (c : Ctx),
    (∀ y, s.eaCalc (.ifiw ⟨false, 0, y⟩) sec c = .ok ⟨mkAddr sec y, .loc⟩) ∧
    (∀ y, s.eaCalc (.efiw false 0 y) sec c = .ok ⟨y, .glob⟩) ∧
    (∀ x y, x ≠ 0 → (sec = 0 ∨ bitAt (s.xr x c) 0 = true ∨ secField (s.xr x c) = 0) →
      s.eaCalc (.ifiw ⟨false, x, y⟩) sec c =
        .ok ⟨mkAddr sec (BitVec.ofNat 18 ((y.toNat + (rh (s.xr x c)).toNat) % 2 ^ 18)), .loc⟩) ∧
    (∀ x y, x ≠ 0 → ¬(sec = 0 ∨ bitAt (s.xr x c) 0 = true ∨ secField (s.xr x c) = 0) →
      s.eaCalc (.ifiw ⟨false, x, y⟩) sec c =
        .ok ⟨BitVec.ofNat 30 (((if y.toNat < 0o400000 then y.toNat else 0o7777 * 2 ^ 18 + y.toNat) +
          (addrOf (s.xr x c)).toNat) % 2 ^ 30), .glob⟩) ∧
    (∀ x y, x ≠ 0 → s.eaCalc (.efiw false x y) sec c =
      .ok ⟨BitVec.ofNat 30 ((y.toNat + (addrOf (s.xr x c)).toNat) % 2 ^ 30), .glob⟩)

/-- Where an address word is indirect, the word at the computed address, read in the same context and classified in that
address's section, continues the calculation there: one that ends it gives the result, and every result is the rest of the
chain's. In section zero an indirect word whose address is its own never ends the EA-calc, and an instruction that starts it
is stuck: no next state (DESIGN CHOICE of the spec, D22; log 37). (40_ea_calc.md section 2, 40_ea_calc.md section 3,
40_ea_calc.md section 5.) -/
def Obligations.IndirectWords : Prop :=
  (∀ (s : State) (sec : Sec) (c : Ctx) (aw aw' : AddrWord) (w : Word), aw.ind = true →
     s.memRead (eaIter aw sec (s.xr aw.idx c)) c = .ok w →
     classify w (secOf (eaIter aw sec (s.xr aw.idx c)).addr) = some aw' →
     (aw'.ind = false → s.eaCalc aw sec c = s.eaCalc aw' (secOf (eaIter aw sec (s.xr aw.idx c)).addr) c) ∧
     (∀ ea, s.eaCalc aw sec c = .ok ea → s.eaCalc aw' (secOf (eaIter aw sec (s.xr aw.idx c)).addr) c = .ok ea)) ∧
  (∀ (s : State) (a : AcNum) (y : Half) (w : Word), s.pcSec = 0 → fieldsOf w = ⟨true, 0, y⟩ →
     s.memRead ⟨mkAddr 0 y, .loc⟩ .cur = .ok w →
     s.eaOf ⟨true, 0, y⟩ = .error .endless ∧ exec (.move a ⟨true, 0, y⟩) s = .fault .stuck)

/-- An indirect word met in a non-zero section with bits 0 and 1 both set ends the EA-calc in a page fail at the reference it
was fetched through, in whatever context the EA-calc is made and after however many legal indirect words; the instruction
does not execute (here: MOVE takes the page fail, nothing else changed; a PXCT 14 of MOVE takes it in previous context). The
second word of a two-word byte pointer with both bits set page fails so too, reported where it was fetched (the model's
reading of R481, log 39): LDB takes it, and a PXCT 3 of LDB, which fetches the pointer in current context, takes it in
current context. In section zero every word is an ordinary IFIW. (40_ea_calc.md section 2, 41_byte.md section 1,
60_exceptions.md section 1, 48_xct_pxct.md section 3, 48_xct_pxct.md section 4.) -/
def Obligations.IllegalIndirectWord : Prop :=
  (∀ (s : State) (c : Ctx) (n : Nat) (aw aw' : AddrWord) (sec sec' : Sec) (lw lw' : Word), n < eaFuel →
    s.chains c n aw sec lw aw' sec' lw' → s.meetsIllegal c aw' sec' →
    s.eaCalc aw sec c = .error (.pageFail ⟨eaIter aw' sec' (s.xr aw'.idx c), c, .illegalIndirect⟩)) ∧
  (∀ (s : State) (a : AcNum) (e : AddrFields) (n : Nat) (aw' : AddrWord) (sec' : Sec) (lw lw' : Word), n < eaFuel →
    s.chains .cur n (.ifiw e) s.pcSec lw aw' sec' lw' → s.meetsIllegal .cur aw' sec' →
    s.cfg.traps.pageFail = some .pageFailSketch → exec (.move a e) s =
      .next (s.enterPageFail ⟨eaIter aw' sec' (s.xr aw'.idx .cur), .cur, .illegalIndirect⟩)) ∧
  (∀ (s : State) (a : AcNum) (e e' : AddrFields) (ea : EA) (w : Word) (n : Nat) (aw' : AddrWord) (sec' : Sec) (lw lw' : Word),
    n < eaFuel → s.mode = .exec → s.eaOf e = .ok ea → s.memRead ea .cur = .ok w →
    decode (standardWord s.cfg.opcodes w) = .move a e' →
    s.chains .prev n (.ifiw e') s.pcs lw aw' sec' lw' → s.meetsIllegal .prev aw' sec' →
    s.cfg.traps.pageFail = some .pageFailSketch → exec (.pxct 0o14 e) s =
      .next (s.enterPageFail ⟨eaIter aw' sec' (s.xr aw'.idx .prev), .prev, .illegalIndirect⟩)) ∧
  (∀ (s : State) (a : AcNum) (e : AddrFields) (ea : EA) (w1 w2 : Word), s.eaOf e = .ok ea → s.memRead ea .cur = .ok w1 →
    decodeBP w1 (secOf ea.addr) = .twoGlobal → s.mayInc ea → s.memRead (inc ea) .cur = .ok w2 → secOf (inc ea).addr ≠ 0 →
    bitAt w2 0 = true → bitAt w2 1 = true → s.cfg.traps.pageFail = some .pageFailSketch →
    exec (.ldb a e) s = .next (s.enterPageFail ⟨inc ea, .cur, .illegalIndirect⟩)) ∧
  (∀ (s : State) (a : AcNum) (e e' : AddrFields) (ea ea' : EA) (w w1 w2 : Word), s.mode = .exec → s.eaOf e = .ok ea →
    s.memRead ea .cur = .ok w → decode (standardWord s.cfg.opcodes w) = .ldb a e' →
    s.eaCalc (.ifiw e') (secOf ea.addr) .cur = .ok ea' → s.memRead ea' .cur = .ok w1 →
    decodeBP w1 (secOf ea'.addr) = .twoGlobal → s.mayInc ea' → s.memRead (inc ea') .cur = .ok w2 → s.pcs ≠ 0 →
    bitAt w2 0 = true → bitAt w2 1 = true → s.cfg.traps.pageFail = some .pageFailSketch →
    exec (.pxct 3 e) s = .next (s.enterPageFail ⟨inc ea', .cur, .illegalIndirect⟩)) ∧
  (∀ w : Word, classify w 0 = some (.ifiw (fieldsOf w)))

/-- Whatever the index registers and the indirect words hold, an EA-calc that begins with default section zero and yields an
address yields one in section zero, local. (40_ea_calc.md section 3.) -/
def Obligations.SectionZeroAbsorbs : Prop :=
  ∀ (s : State) (e : AddrFields) (c : Ctx) (ea : EA), s.eaCalc (.ifiw e) 0 c = .ok ea →
    secOf ea.addr = 0 ∧ ea.flag = .loc

/-- For one instruction of each family, a page fail in the EA-calc is the instruction's whole effect: the page fail is
entered from the state as it was. (40_ea_calc.md section 5, 60_exceptions.md section 3.) -/
def Obligations.EaPageFailTaken : Prop :=
  ∀ i ∈ ([.move, .movem, .dmove, .add, .fadr, .andb, .hrrm, .aos, .tdne, .lsh, .sojg, .ldb, .idpb, .push, .pushj, .jsr,
      .jsp, .blt, .extend, .luuo01, .muuo000, .jsys, .exch, .map] : List (AcNum → AddrFields → Instr)),
    ∀ (a : AcNum) (e : AddrFields) (s : State) (pf : PageFail), s.eaOf e = .error (.pageFail pf) →
      s.cfg.traps.pageFail = some .pageFailSketch → exec (i a e) s = .next (s.enterPageFail pf)

/-- MOVE loads AC A with the word at E and goes on to the next instruction, nothing else changed; a page fail in the EA-calc
or the read is taken with nothing changed. SKIPA loads AC A with the word at E unless A is 0, and always takes the
instruction at PC+2, in section. (R395, R397.) -/
def Obligations.MoveAndSkipa : Prop :=
  (∀ (a : AcNum) (e : AddrFields) (s : State),
     (∀ ea l, s.eaOf e = .ok ea → s.locate ea .cur .read = .ok l →
       exec (.move a e) s = .next (s.setX a (s.get l)).nextPc) ∧
     (∀ pf, s.cfg.traps.pageFail = some .pageFailSketch →
       (s.eaOf e = .error (.pageFail pf) ∨ ∃ ea, s.eaOf e = .ok ea ∧ s.locate ea .cur .read = .error pf) →
       exec (.move a e) s = .next (s.enterPageFail pf))) ∧
  (∀ (a : AcNum) (e : AddrFields) (s : State) (ea : EA) (l : Loc), s.eaOf e = .ok ea → s.locate ea .cur .read = .ok l →
     exec (.skipa a e) s = .next ((if a = 0 then s else s.setX a (s.get l)).goto (s.pcPlus 2)))

/-- MOVEI loads AC A with 0,,off(E); XMOVEI with all 30 bits of ConvE(E); XHLLI replaces its left half by the section of
ConvE(E) and keeps its right half; none references E, and nothing else changes but the PC. ConvE of a local reference with
in-section part 0 to 17 octal in a non-zero section is 1,,n; every other effective address keeps its address. (R391, R392,
R394, R390.) -/
def Obligations.ImmediateMoves : Prop :=
  (∀ (a : AcNum) (e : AddrFields) (s : State) (ea : EA), s.eaOf e = .ok ea →
     exec (.movei a e) s = .next (s.setX a (join 0 (offOf ea.addr))).nextPc ∧
     exec (.xmovei a e) s = .next (s.setX a (wordOfAddr (convE ea))).nextPc ∧
     exec (.xhlli a e) s = .next (s.setX a (join ((secOf (convE ea)).setWidth 18) (rh (s.x a)))).nextPc) ∧
  (∀ (s : Sec) (n : Half) (f : RefFlag), convE ⟨mkAddr s n, f⟩ =
     if f = .loc ∧ n.toNat ≤ 0o17 ∧ s ≠ 0 then mkAddr 1 n else mkAddr s n)

/-- MOVEM stores AC A at E; SETZB stores 0 at E and in AC A; EXCH exchanges AC A and the word at E; every other place keeps
its word. DMOVE loads AC A from E, then AC A+1 (modulo 16) from Inc(E), each reference tested on its own; DMOVEM stores ACs A
and A+1 at E and Inc(E); nothing else changes but the PC. That DMOVEM reads both ACs before its first store is log 39
(DEDUCED); with E at 7777,,777777 global DMOVE and DMOVEM are refused where the spec's refusals are followed (R70, log 47),
and else go on at a free address (log 13). (47_general.md section 3, 47_general.md section 4, 20_memory.md section 3.) -/
def Obligations.StoringMoves : Prop :=
  (∀ (a : AcNum) (e : AddrFields) (s : State) (ea : EA) (l : Loc), s.eaOf e = .ok ea → s.locate ea .cur .write = .ok l →
     exec (.movem a e) s = .next (s.put l (s.x a)).nextPc ∧
     exec (.setzb a e) s = .next ((s.put l 0).setX a 0).nextPc ∧
     (s.locate ea .cur .read = .ok l → exec (.exch a e) s = .next ((s.put l (s.x a)).setX a (s.get l)).nextPc) ∧
     (∀ (l' : Loc) (v : Word), l' ≠ l → (s.put l v).nextPc.get l' = s.get l')) ∧
  (∀ (a : AcNum) (e : AddrFields) (s : State) (ea : EA) (l1 l2 : Loc), s.eaOf e = .ok ea →
     (s.mayInc ea → s.locate ea .cur .read = .ok l1 → s.locate (inc ea) .cur .read = .ok l2 →
       exec (.dmove a e) s = .next ((s.setX a (s.get l1)).setX (a + 1) ((s.setX a (s.get l1)).get l2)).nextPc) ∧
     (s.mayInc ea → s.locate ea .cur .write = .ok l1 → s.locate (inc ea) .cur .write = .ok l2 →
       exec (.dmovem a e) s = .next ((s.put l1 (s.x a)).put l2 (s.x (a + 1))).nextPc) ∧
     (s.topRefused ea → s.at ea l1 →
       exec (.dmove a e) s = .refused .addressTop ∧ exec (.dmovem a e) s = .refused .addressTop))

/-- For every instruction of the MOVE class (MOVES, MOVSx, MOVNx, MOVMx) and the DMOVE class (DMOVN, DMOVNM): E, the
references its suffix makes (none, a read, a write, both, E and Inc(E)), the ACs that receive results of the data step f
(free values of the operands, log 6), the arithmetic flags only (log 8), and the next instruction or, on a skip, the one
after; nothing else changes. Which ACs are read and written, and that an S form spares AC 0, is log 7 (PRESUMED).
(47_general.md section 4.) -/
def Obligations.MoveClassForms : Prop :=
  (∀ p ∈ ([(0o121, .dmovn)] :
    List (Nat × (AcNum → AddrFields → Instr))), Read2Form [] [0, 1] p) ∧
  (∀ p ∈ ([(0o125, .dmovnm)] :
    List (Nat × (AcNum → AddrFields → Instr))), Write2Form [0, 1] p) ∧
  (∀ p ∈ ([(0o203, .moves), (0o207, .movss), (0o213, .movns), (0o217, .movms)] :
    List (Nat × (AcNum → AddrFields → Instr))), BothForm [0] [0] true false p) ∧
  (∀ p ∈ ([(0o204, .movs), (0o210, .movn), (0o214, .movm)] :
    List (Nat × (AcNum → AddrFields → Instr))), ReadForm [0] [0] false false p) ∧
  (∀ p ∈ ([(0o205, .movsi), (0o211, .movni), (0o215, .movmi)] :
    List (Nat × (AcNum → AddrFields → Instr))), ImmForm [0] [0] false p) ∧
  (∀ p ∈ ([(0o206, .movsm), (0o212, .movnm), (0o216, .movmm)] :
    List (Nat × (AcNum → AddrFields → Instr))), WriteForm [0] p)

/-- For every instruction of the fixed-point arithmetic: E, the references its suffix makes (none, a read, a write, both, E
and Inc(E)), the ACs that receive results of the data step f (free values of the operands, log 6), the arithmetic flags only
(log 8), and the next instruction or, on a skip, the one after; nothing else changes. The same of the shift and rotate
instructions, all immediate. The AC pairs and quadruples of MUL, IDIV, DIV, DMUL, DDIV and of the combined shifts are log 7
(PRESUMED). (47_general.md section 4.) -/
def Obligations.ArithmeticAndShiftForms : Prop :=
  ((∀ p ∈ ([(0o114, .dadd), (0o115, .dsub)] :
     List (Nat × (AcNum → AddrFields → Instr))), Read2Form [0, 1] [0, 1] p) ∧
   (∀ p ∈ ([(0o116, .dmul)] :
     List (Nat × (AcNum → AddrFields → Instr))), Read2Form [0, 1] [0, 1, 2, 3] p) ∧
   (∀ p ∈ ([(0o117, .ddiv)] :
     List (Nat × (AcNum → AddrFields → Instr))), Read2Form [0, 1, 2, 3] [0, 1, 2, 3] p) ∧
   (∀ p ∈ ([(0o220, .imul), (0o270, .add), (0o274, .sub)] :
     List (Nat × (AcNum → AddrFields → Instr))), ReadForm [0] [0] false false p) ∧
   (∀ p ∈ ([(0o221, .imuli), (0o271, .addi), (0o275, .subi)] :
     List (Nat × (AcNum → AddrFields → Instr))), ImmForm [0] [0] false p) ∧
   (∀ p ∈ ([(0o222, .imulm), (0o226, .mulm), (0o232, .idivm), (0o272, .addm), (0o276, .subm)] :
     List (Nat × (AcNum → AddrFields → Instr))), WriteForm [0] p) ∧
   (∀ p ∈ ([(0o223, .imulb), (0o273, .addb), (0o277, .subb)] :
     List (Nat × (AcNum → AddrFields → Instr))), BothForm [0] [0] false false p) ∧
   (∀ p ∈ ([(0o224, .mul), (0o230, .idiv)] :
     List (Nat × (AcNum → AddrFields → Instr))), ReadForm [0] [0, 1] false false p) ∧
   (∀ p ∈ ([(0o225, .muli), (0o231, .idivi)] :
     List (Nat × (AcNum → AddrFields → Instr))), ImmForm [0] [0, 1] false p) ∧
   (∀ p ∈ ([(0o227, .mulb), (0o233, .idivb)] :
     List (Nat × (AcNum → AddrFields → Instr))), BothForm [0] [0, 1] false false p) ∧
   (∀ p ∈ ([(0o234, .div)] :
     List (Nat × (AcNum → AddrFields → Instr))), ReadForm [0, 1] [0, 1] false false p) ∧
   (∀ p ∈ ([(0o235, .divi)] :
     List (Nat × (AcNum → AddrFields → Instr))), ImmForm [0, 1] [0, 1] false p) ∧
   (∀ p ∈ ([(0o236, .divm)] :
     List (Nat × (AcNum → AddrFields → Instr))), WriteForm [0, 1] p) ∧
   (∀ p ∈ ([(0o237, .divb)] :
     List (Nat × (AcNum → AddrFields → Instr))), BothForm [0, 1] [0, 1] false false p)) ∧
  ((∀ p ∈ ([(0o240, .ash), (0o241, .rot), (0o242, .lsh)] :
     List (Nat × (AcNum → AddrFields → Instr))), ImmForm [0] [0] false p) ∧
   (∀ p ∈ ([(0o244, .ashc), (0o245, .rotc), (0o246, .lshc)] :
     List (Nat × (AcNum → AddrFields → Instr))), ImmForm [0, 1] [0, 1] false p))

/-- For every instruction of the floating-point instructions: E, the references its suffix makes (none, a read, a write,
both, E and Inc(E)), the ACs that receive results of the data step f (free values of the operands, log 6), the arithmetic
flags only (log 8), and the next instruction or, on a skip, the one after; nothing else changes. That UFA leaves its result
in A+1 alone, that FIX, FIXR and FLTR read no AC, that DFN leaves its result in AC A alone, and the AC pairs of DFAD to DFDV
are log 7 (PRESUMED). (47_general.md section 4.) -/
def Obligations.FloatingForms : Prop :=
  (∀ p ∈ ([(0o110, .dfad), (0o111, .dfsb), (0o112, .dfmp), (0o113, .dfdv)] :
    List (Nat × (AcNum → AddrFields → Instr))), Read2Form [0, 1] [0, 1] p) ∧
  (∀ p ∈ ([(0o122, .fix), (0o126, .fixr), (0o127, .fltr)] :
    List (Nat × (AcNum → AddrFields → Instr))), ReadForm [] [0] false false p) ∧
  (∀ p ∈ ([(0o130, .ufa)] :
    List (Nat × (AcNum → AddrFields → Instr))), ReadForm [0] [1] false false p) ∧
  (∀ p ∈ ([(0o143, .fadb), (0o147, .fadrb), (0o153, .fsbb), (0o157, .fsbrb), (0o163, .fmpb), (0o167, .fmprb),
      (0o173, .fdvb), (0o177, .fdvrb)] :
    List (Nat × (AcNum → AddrFields → Instr))), BothForm [0] [0] false false p) ∧
  (∀ p ∈ ([(0o132, .fsc), (0o145, .fadri), (0o155, .fsbri), (0o165, .fmpri), (0o175, .fdvri)] :
    List (Nat × (AcNum → AddrFields → Instr))), ImmForm [0] [0] false p) ∧
  (∀ p ∈ ([(0o131, .dfn), (0o140, .fad), (0o144, .fadr), (0o150, .fsb), (0o154, .fsbr), (0o160, .fmp), (0o164, .fmpr),
      (0o170, .fdv), (0o174, .fdvr)] :
    List (Nat × (AcNum → AddrFields → Instr))), ReadForm [0] [0] false false p) ∧
  (∀ p ∈ ([(0o142, .fadm), (0o146, .fadrm), (0o152, .fsbm), (0o156, .fsbrm), (0o162, .fmpm), (0o166, .fmprm), (0o172, .fdvm),
      (0o176, .fdvrm)] :
    List (Nat × (AcNum → AddrFields → Instr))), WriteForm [0] p)

/-- For every instruction of the Boolean class: E, the references its suffix makes (none, a read, a write, both, E and
Inc(E)), the ACs that receive results of the data step f (free values of the operands, log 6), the arithmetic flags only (log
8), and the next instruction or, on a skip, the one after; nothing else changes. Which operands are read and where the
results go is log 7 (PRESUMED). (47_general.md section 4.) -/
def Obligations.BooleanForms : Prop :=
  (∀ p ∈ ([(0o400, .setz), (0o404, .and), (0o410, .andca), (0o414, .setm), (0o420, .andcm), (0o424, .seta), (0o430, .xor),
      (0o434, .ior), (0o440, .andcb), (0o444, .eqv), (0o450, .setca), (0o454, .orca), (0o460, .setcm), (0o464, .orcm),
      (0o470, .orcb), (0o474, .seto)] :
    List (Nat × (AcNum → AddrFields → Instr))), ReadForm [0] [0] false false p) ∧
  (∀ p ∈ ([(0o401, .setzi), (0o405, .andi), (0o411, .andcai), (0o421, .andcmi), (0o425, .setai), (0o431, .xori), (0o435, .iori),
      (0o441, .andcbi), (0o445, .eqvi), (0o451, .setcai), (0o455, .orcai), (0o461, .setcmi), (0o465, .orcmi),
      (0o471, .orcbi), (0o475, .setoi)] :
    List (Nat × (AcNum → AddrFields → Instr))), ImmForm [0] [0] false p) ∧
  (∀ p ∈ ([(0o402, .setzm), (0o406, .andm), (0o412, .andcam), (0o416, .setmm), (0o422, .andcmm), (0o426, .setam),
      (0o432, .xorm), (0o436, .iorm), (0o442, .andcbm), (0o446, .eqvm), (0o452, .setcam), (0o456, .orcam),
      (0o462, .setcmm), (0o466, .orcmm), (0o472, .orcbm), (0o476, .setom)] :
    List (Nat × (AcNum → AddrFields → Instr))), WriteForm [0] p) ∧
  (∀ p ∈ ([(0o407, .andb), (0o413, .andcab), (0o417, .setmb), (0o423, .andcmb), (0o427, .setab), (0o433, .xorb), (0o437, .iorb),
      (0o443, .andcbb), (0o447, .eqvb), (0o453, .setcab), (0o457, .orcab), (0o463, .setcmb), (0o467, .orcmb),
      (0o473, .orcbb), (0o477, .setob)] :
    List (Nat × (AcNum → AddrFields → Instr))), BothForm [0] [0] false false p)

/-- For every instruction of the halfword class: E, the references its suffix makes (none, a read, a write, both, E and
Inc(E)), the ACs that receive results of the data step f (free values of the operands, log 6), the arithmetic flags only (log
8), and the next instruction or, on a skip, the one after; nothing else changes. That an S form spares AC 0 is log 7
(PRESUMED). (47_general.md section 4.) -/
def Obligations.HalfwordForms : Prop :=
  (∀ p ∈ ([(0o500, .hll), (0o504, .hrl), (0o510, .hllz), (0o514, .hrlz), (0o520, .hllo), (0o524, .hrlo), (0o530, .hlle),
      (0o534, .hrle), (0o540, .hrr), (0o544, .hlr), (0o550, .hrrz), (0o554, .hlrz), (0o560, .hrro), (0o564, .hlro),
      (0o570, .hrre), (0o574, .hlre)] :
    List (Nat × (AcNum → AddrFields → Instr))), ReadForm [0] [0] false false p) ∧
  (∀ p ∈ ([(0o502, .hllm), (0o506, .hrlm), (0o512, .hllzm), (0o516, .hrlzm), (0o522, .hllom), (0o526, .hrlom), (0o532, .hllem),
      (0o536, .hrlem), (0o542, .hrrm), (0o546, .hlrm), (0o552, .hrrzm), (0o556, .hlrzm), (0o562, .hrrom), (0o566, .hlrom),
      (0o572, .hrrem), (0o576, .hlrem)] :
    List (Nat × (AcNum → AddrFields → Instr))), WriteForm [0] p) ∧
  (∀ p ∈ ([(0o503, .hlls), (0o507, .hrls), (0o513, .hllzs), (0o517, .hrlzs), (0o523, .hllos), (0o527, .hrlos), (0o533, .hlles),
      (0o537, .hrles), (0o543, .hrrs), (0o547, .hlrs), (0o553, .hrrzs), (0o557, .hlrzs), (0o563, .hrros), (0o567, .hlros),
      (0o573, .hrres), (0o577, .hlres)] :
    List (Nat × (AcNum → AddrFields → Instr))), BothForm [0] [0] true false p) ∧
  (∀ p ∈ ([(0o505, .hrli), (0o511, .hllzi), (0o515, .hrlzi), (0o521, .hlloi), (0o525, .hrloi), (0o531, .hllei), (0o535, .hrlei),
      (0o541, .hrri), (0o545, .hlri), (0o551, .hrrzi), (0o555, .hlrzi), (0o561, .hrroi), (0o565, .hlroi), (0o571, .hrrei),
      (0o575, .hlrei)] :
    List (Nat × (AcNum → AddrFields → Instr))), ImmForm [0] [0] false p)

/-- For every instruction of the logical test class: E, the references its suffix makes (none, a read, a write, both, E and
Inc(E)), the ACs that receive results of the data step f (free values of the operands, log 6), the arithmetic flags only (log
8), and the next instruction or, on a skip, the one after; nothing else changes. Whether the skip is taken is a free
condition (log 42, DESIGN CHOICE); which tests write AC A is log 7 (PRESUMED). (47_general.md section 4, 43_jumps.md section
5.) -/
def Obligations.TestForms : Prop :=
  (∀ p ∈ ([(0o600, .trn), (0o601, .tln), (0o602, .trne), (0o603, .tlne), (0o604, .trna), (0o605, .tlna), (0o606, .trnn),
      (0o607, .tlnn), (0o620, .trz), (0o621, .tlz), (0o622, .trze), (0o623, .tlze), (0o624, .trza), (0o625, .tlza),
      (0o626, .trzn), (0o627, .tlzn), (0o640, .trc), (0o641, .tlc), (0o642, .trce), (0o643, .tlce), (0o644, .trca),
      (0o645, .tlca), (0o646, .trcn), (0o647, .tlcn), (0o660, .tro), (0o661, .tlo), (0o662, .troe), (0o663, .tloe),
      (0o664, .troa), (0o665, .tloa), (0o666, .tron), (0o667, .tlon)] :
    List (Nat × (AcNum → AddrFields → Instr))), ImmForm [0] [0] true p) ∧
  (∀ p ∈ ([(0o610, .tdn), (0o611, .tsn), (0o612, .tdne), (0o613, .tsne), (0o614, .tdna), (0o615, .tsna), (0o616, .tdnn),
      (0o617, .tsnn), (0o630, .tdz), (0o631, .tsz), (0o632, .tdze), (0o633, .tsze), (0o634, .tdza), (0o635, .tsza),
      (0o636, .tdzn), (0o637, .tszn), (0o650, .tdc), (0o651, .tsc), (0o652, .tdce), (0o653, .tsce), (0o654, .tdca),
      (0o655, .tsca), (0o656, .tdcn), (0o657, .tscn), (0o670, .tdo), (0o671, .tso), (0o672, .tdoe), (0o673, .tsoe),
      (0o674, .tdoa), (0o675, .tsoa), (0o676, .tdon), (0o677, .tson)] :
    List (Nat × (AcNum → AddrFields → Instr))), ReadForm [0] [0] false true p)

/-- For every instruction of the CAI, CAM, SKIP, AOS and SOS classes: E, the references its suffix makes (none, a read, a
write, both, E and Inc(E)), the ACs that receive results of the data step f (free values of the operands, log 6), the
arithmetic flags only (log 8), and the next instruction or, on a skip, the one after; nothing else changes. Whether the skip
is taken is a free condition (log 42, DESIGN CHOICE); that SKIPx, AOSx and SOSx spare AC 0 is log 7 (PRESUMED).
(47_general.md section 4, 43_jumps.md section 5.) -/
def Obligations.SkipForms : Prop :=
  (∀ p ∈ ([(0o300, .cai), (0o301, .cail), (0o302, .caie), (0o303, .caile), (0o304, .caia), (0o305, .caige), (0o306, .cain),
      (0o307, .caig)] :
    List (Nat × (AcNum → AddrFields → Instr))), ImmForm [0] [] true p) ∧
  (∀ p ∈ ([(0o310, .cam), (0o311, .caml), (0o312, .came), (0o313, .camle), (0o314, .cama), (0o315, .camge), (0o316, .camn),
      (0o317, .camg)] :
    List (Nat × (AcNum → AddrFields → Instr))), ReadForm [0] [] false true p) ∧
  (∀ p ∈ ([(0o330, .skip), (0o331, .skipl), (0o332, .skipe), (0o333, .skiple), (0o335, .skipge), (0o336, .skipn), (0o337, .skipg)] :
    List (Nat × (AcNum → AddrFields → Instr))), ReadForm [0] [0] true true p) ∧
  (∀ p ∈ ([(0o350, .aos), (0o351, .aosl), (0o352, .aose), (0o353, .aosle), (0o354, .aosa), (0o355, .aosge), (0o356, .aosn),
      (0o357, .aosg), (0o370, .sos), (0o371, .sosl), (0o372, .sose), (0o373, .sosle), (0o374, .sosa), (0o375, .sosge),
      (0o376, .sosn), (0o377, .sosg)] :
    List (Nat × (AcNum → AddrFields → Instr))), BothForm [0] [0] true true p)

/-- AOJx, SOJx, AOBJP and AOBJN leave in AC A, and JFFO in AC A+1 alone, a result of the data step (log 6, log 7); JUMPx
changes no AC. Each may change the arithmetic flags (log 8) and jumps to all 30 bits of E or goes on (condition free, log
42). JFCL reads and writes no AC, and its condition and the arithmetic flags it leaves depend on the flags and the AC field.
(43_jumps.md section 5.) -/
def Obligations.ConditionalJumpForms : Prop :=
  (∀ p ∈ ([(0o243, .jffo)] :
    List (Nat × (AcNum → AddrFields → Instr))), JumpForm [1] p) ∧
  (∀ p ∈ ([(0o252, .aobjp), (0o253, .aobjn), (0o340, .aoj), (0o341, .aojl), (0o342, .aoje), (0o343, .aojle), (0o344, .aoja),
      (0o345, .aojge), (0o346, .aojn), (0o347, .aojg), (0o360, .soj), (0o361, .sojl), (0o362, .soje), (0o363, .sojle),
      (0o364, .soja), (0o365, .sojge), (0o366, .sojn), (0o367, .sojg)] :
    List (Nat × (AcNum → AddrFields → Instr))), JumpForm [0] p) ∧
  (∀ p ∈ ([(0o320, .jump), (0o321, .jumpl), (0o322, .jumpe), (0o323, .jumple), (0o324, .jumpa), (0o325, .jumpge),
      (0o326, .jumpn), (0o327, .jumpg)] :
    List (Nat × (AcNum → AddrFields → Instr))), JumpForm [] p) ∧
  (∀ (a : AcNum) (e : AddrFields) (s : State) (ea : EA), s.eaOf e = .ok ea →
    exec (.jfcl a e) s = .next (s.dataEnd 0o255 [s.flags.setWidth 36, a.setWidth 36]
      (if Config.dataCond 0o255 [s.flags.setWidth 36, a.setWidth 36] then ea.addr else s.pcPlus 1)))

/-- For a byte inside the word (P + S at most 36): LDB's value is bits P to P+S-1 counted from the right, right-justified,
zero above; a deposit replaces exactly those bits by the low S bits of the AC. (30_encoding.md section 4, 41_byte.md section
2.) -/
def Obligations.ByteField : Prop :=
  ∀ (p sz : Nat) (w b : Word), p + sz ≤ 36 →
    (∀ i, i < 36 → (byteOf p sz w).getLsbD i = (decide (i < sz) && w.getLsbD (p + i))) ∧
    (∀ i, i < 36 → (depositByte p sz w b).getLsbD i =
      if p ≤ i ∧ i < p + sz then b.getLsbD (i - p) else w.getLsbD i)

/-- With the pointer at E in any of the three formats (format by the section of E, its own EA-calc in that section): LDB
loads AC A with the byte, DPB replaces it by the low bits of AC A; nothing else changes but the PC. Where P+S is above 36 the
byte and the deposit are unstated functions (log 12, DESIGN CHOICE; R112 refuses); the code 77 is refused and is no pointer
of this statement (log 10). (41_byte.md section 1, 41_byte.md section 2.) -/
def Obligations.ByteLoadAndDeposit : Prop :=
  ∀ (a : AcNum) (e : AddrFields) (s : State) (ea : EA) (k : BpKind) (w1 w2 : Word) (p sz : Nat) (be : EA) (l : Loc),
    s.eaOf e = .ok ea → s.pointsTo ea k w1 w2 p sz be →
    (s.locate be .cur .read = .ok l → exec (.ldb a e) s = .next (s.setX a (byteOf p sz (s.get l))).nextPc) ∧
    (s.at be l → exec (.dpb a e) s = .next (s.put l (depositByte p sz (s.get l) (s.x a))).nextPc)

/-- The pointer at E is stepped and written back; IBP does no more; ILDB and IDPB then load or deposit the byte of the
stepped pointer, whose EA-calc is done after the write-back. The step itself is the parameter BYTE_INCREMENT (log 11), and
where P+S or S is above 36 the instructions run with free values (log 12, DESIGN CHOICE; R112 and R211 refuse). (41_byte.md
section 2.) -/
def Obligations.IncrementedBytes : Prop :=
  ∀ (a : AcNum) (e : AddrFields) (s s1 : State) (ea : EA) (k : BpKind), s.eaOf e = .ok ea → s.stepsPointer s1 ea k →
    exec (.ibp 0 e) s = .next s1.nextPc ∧
    (∀ w1 w2 p sz be l, s1.pointsTo ea k w1 w2 p sz be →
      (s1.locate be .cur .read = .ok l → exec (.ildb a e) s = .next (s1.setX a (byteOf p sz (s1.get l))).nextPc) ∧
      (s1.at be l → exec (.idpb a e) s = .next (s1.put l (depositByte p sz (s1.get l) (s1.x a))).nextPc))

/-- By the default of BYTE_INCREMENT (general knowledge, log 11): P becomes P - S, or 36 - S with the address stepped by one:
within the right half for a one-word local pointer and for an IFIW second word, over 30 bits for an EFIW second word and for
a one-word global pointer, whose stepped (P, S) is again in the default table OWGBP_TABLE (log 10). (41_byte.md section 2,
30_encoding.md section 4.) -/
def Obligations.PointerIncrement : Prop :=
  (∀ (cfg : Config) (w1 w2 : Word), cfg.byteIncrement = .standard → (bpS w1).toNat ≤ (bpP w1).toNat →
    incBP cfg .oneLocal w1 w2 = .ok (withP w1 (BitVec.ofNat 6 ((bpP w1).toNat - (bpS w1).toNat)), w2) ∧
    incBP cfg .twoGlobal w1 w2 = .ok (withP w1 (BitVec.ofNat 6 ((bpP w1).toNat - (bpS w1).toNat)), w2)) ∧
  (∀ (cfg : Config) (w1 w2 : Word), cfg.byteIncrement = .standard → (bpP w1).toNat < (bpS w1).toNat → (bpS w1).toNat ≤ 36 →
    incBP cfg .oneLocal w1 w2 =
      .ok (withP (join (lh w1) (rh w1 + 1)) (BitVec.ofNat 6 (36 - (bpS w1).toNat)), w2) ∧
    incBP cfg .twoGlobal w1 w2 = .ok (withP w1 (BitVec.ofNat 6 (36 - (bpS w1).toNat)),
      if bitAt w2 0 = true then join (lh w2) (rh w2 + 1) else withAddr w2 (addrOf w2 + 1))) ∧
  (∀ (cfg : Config) (w1 w2 : Word) (p sz : Nat), cfg.byteIncrement = .standard → cfg.owgbp = owgbpStandard →
    37 ≤ (bpP w1).toNat → owgbpDecode cfg.owgbp (bpP w1).toNat = some (p, sz) →
    ∃ w1', incBP cfg .oneGlobal w1 w2 = .ok (w1', w2) ∧
      owgbpDecode cfg.owgbp (bpP w1').toNat = some (if sz ≤ p then p - sz else 36 - sz, sz) ∧
      addrOf w1' = addrOf w1 + if sz ≤ p then 0 else 1)

/-- With the pointer at E in any of the three formats and its EA-calc made (R150), ADJBP leaves results of an unstated
function of ACs A and A+1 and the pointer words in ACs A and A+1 (log 35) and goes on; no flag and nothing else changes; a
one-word global pointer with the reserved code 77 is refused by name (log 10). MAP makes no reference to E; AC A receives,
for what Map says of E, a value the source does not give (log 36), and nothing else changes but the PC. (41_byte.md
section 2, 40_ea_calc.md section 1, 30_encoding.md section 4, 47_general.md section 3, 48_xct_pxct.md section 4.) -/
def Obligations.AdjbpAndMap : Prop :=
  (∀ (a : AcNum) (e : AddrFields) (s : State) (ea : EA) (k : BpKind) (w1 w2 : Word) (p sz : Nat) (be : EA), a ≠ 0 →
     s.eaOf e = .ok ea → s.pointsTo ea k w1 w2 p sz be →
     exec (.ibp a e) s = .next (s.acResults 0o133 [s.x a, s.x (a + 1), w1, w2] a [0, 1]).nextPc) ∧
  (∀ (a : AcNum) (e : AddrFields) (s : State) (ea : EA) (w : Word), a ≠ 0 → s.eaOf e = .ok ea → s.memRead ea .cur = .ok w →
     (bpP w).toNat = 0o77 → s.cfg.owgbp = owgbpStandard → exec (.ibp a e) s = .refused .owgbpReserved) ∧
  (∀ (a : AcNum) (e : AddrFields) (s : State) (ea : EA), s.eaOf e = .ok ea →
     exec (.map a e) s = .next ((s.setX a (s.mapAnswer ea .cur)).draw 1).nextPc)

/-- JRST sets the PC to all 30 bits of E; XJRST to bits 6-35 of the word at E; JSP first stores the PC word in AC A, its E
computed before; nothing else changes. In a non-zero PC section the word stored is PC+1 as a 30-bit address, bits 0-5 zero;
in section zero it is the flags where FLAGS_LAYOUT places them and the 18-bit PC+1, which by the default layout (R28, log 14)
is the flags in bits 0-12 and zeros in bits 13-17. That PC+1 wraps in section is R27 with the spec's decision D29, and that
XJRST ignores bits 0-5 of its word is decision D10 (log 39). (43_jumps.md section 1, 43_jumps.md section 2, 43_jumps.md
section 3, 10_state.md section 4, 30_encoding.md section 6.) -/
def Obligations.PlainJumps : Prop :=
  (∀ (a : AcNum) (e : AddrFields) (s : State) (ea : EA), s.eaOf e = .ok ea →
     exec (.jrst e) s = .next (s.goto ea.addr) ∧
     (∀ w, s.memRead ea .cur = .ok w → exec (.xjrst e) s = .next (s.goto (addrOf w))) ∧
     exec (.jsp a e) s = .next ((s.setX a s.pcWord).goto ea.addr)) ∧
  (∀ s : State,
     (s.pcSec ≠ 0 → s.pcWord = (0 : BitVec 6) ++ s.pcSec ++ (offOf s.pc + 1)) ∧
     (s.pcSec = 0 → s.pcWord = flagsPC s.cfg.flagsLayout s.flags (offOf s.pc + 1)) ∧
     (s.pcSec = 0 → s.cfg.flagsLayout = .standard → s.pcWord = s.flags ++ (0 : BitVec 5) ++ (offOf s.pc + 1)))

/-- JSR stores the PC word at E and jumps to Inc(E); JSA within PC section stores AC A at E, leaves off(E),,off(PC+1) in AC A
and jumps to Inc(E), and is refused where E or Inc(E) is outside PC section; JRA loads AC A through its left half local to PC
section and jumps to off(E) in PC section. That JSA is refused there is the spec's decision D14 (log 32, DESIGN CHOICE), that
JRA restores local to PC section is D16 (log 39). With E at 7777,,777777 global JSR is refused where the spec's refusals are
followed (R277, log 47), and else jumps to a free address (log 13). (43_jumps.md section 3, 43_jumps.md section 4.) -/
def Obligations.SubroutineJumps : Prop :=
  ∀ (a : AcNum) (e : AddrFields) (s : State) (ea : EA) (l : Loc), s.eaOf e = .ok ea →
    (s.locate ea .cur .write = .ok l →
      (s.mayInc ea → exec (.jsr a e) s = .next ((s.put l s.pcWord).goto (inc ea).addr)) ∧
      (s.topRefused ea → exec (.jsr a e) s = .refused .addressTop)) ∧
    (secOf ea.addr = s.pcSec → (ea.flag = .loc ∨ offOf ea.addr ≠ 0o777777) → s.locate ea .cur .write = .ok l →
      exec (.jsa a e) s =
        .next (((s.put l (s.x a)).setX a (join (offOf ea.addr) (offOf s.pc + 1))).goto (inc ea).addr)) ∧
    ((secOf ea.addr ≠ s.pcSec ∨ (ea.flag = .glob ∧ offOf ea.addr = 0o777777)) →
      exec (.jsa a e) s = .refused .jsaInterSection) ∧
    (s.locate ⟨mkAddr s.pcSec (lh (s.x a)), .loc⟩ .cur .read = .ok l →
      exec (.jra a e) s = .next ((s.setX a (s.get l)).goto (mkAddr s.pcSec (offOf ea.addr))))

/-- JRSTF in a non-zero PC section enters the MUUO; in section zero it restores the flags from the last word whose left half
entered its EA-calc, however long the chain: the index register of the last address word, else the last indirect word, else,
with neither, the instruction word itself (log 15, log 16); MODE becomes the one the restored user flag gives (log 14).
XJRSTF restores them from the word at E and takes the PC from the next, or in the other order where the parameter
XJRSTF_BLOCK says so, and is refused with E at 7777,,777777 global where the spec's refusals are followed (R70, log 47);
XJEN is an MUUO in user mode and in exec mode is refused or does the same as XJRSTF, as its parameter says (log 29, log 47).
(43_jumps.md section 2, 60_exceptions.md section 3.) -/
def Obligations.FlagJumps : Prop :=
  ∀ (e : AddrFields) (s : State) (ea : EA) (f w : Word), s.eaOf e = .ok ea →
    (s.pcSec ≠ 0 → s.cfg.traps.muuo = some .muuoSketch → exec (.jrstf e) s = .next (s.enterMuuo 0o254 2 ea)) ∧
    (∀ (n : Nat) (aw : AddrWord) (sec : Sec) (lw : Word), s.pcSec = 0 → n < eaFuel →
      s.chains .cur n (.ifiw e) 0 (s.implementedWord 0o254 2 e) aw sec lw → aw.ind = false →
      exec (.jrstf e) s = .next (s.restored (if aw.idx = 0 then lw else s.x aw.idx) ea.addr)) ∧
    (s.pcSec = 0 → e.i = true → e.x = 0 → s.memRead ⟨mkAddr 0 e.y, .loc⟩ .cur = .ok w → (fieldsOf w).i = false →
      (fieldsOf w).x = 0 → exec (.jrstf e) s = .next (s.restored w (mkAddr 0 (rh w)))) ∧
    (s.pcSec = 0 → e.i = false → e.x ≠ 0 →
      exec (.jrstf e) s = .next (s.restored (s.x e.x) (mkAddr 0 (e.y + rh (s.x e.x))))) ∧
    (s.pcSec = 0 → e.i = false → e.x = 0 → s.cfg.opcodes.ops = [] → s.cfg.opcodes.jrst = [] →
      exec (.jrstf e) s = .next (s.restored (instrWord 0o254 2 e) (mkAddr 0 e.y))) ∧
    (s.memRead ea .cur = .ok f → s.mayInc ea → s.memRead (inc ea) .cur = .ok w → s.cfg.flagsLayout.pcFirst = false →
      exec (.xjrstf e) s = .next (s.restored f (addrOf w)) ∧
      (s.mode = .exec → s.cfg.xjen = .run → exec (.xjen e) s = .next (s.restored f (addrOf w)))) ∧
    (s.memRead ea .cur = .ok w → s.mayInc ea → s.memRead (inc ea) .cur = .ok f → s.cfg.flagsLayout.pcFirst = true →
      exec (.xjrstf e) s = .next (s.restored f (addrOf w)) ∧
      (s.mode = .exec → s.cfg.xjen = .run → exec (.xjen e) s = .next (s.restored f (addrOf w)))) ∧
    (s.topRefused ea → s.memRead ea .cur = .ok w → exec (.xjrstf e) s = .refused .addressTop) ∧
    (s.mode = .exec → s.cfg.xjen = .refuse → exec (.xjen e) s = .refused .jrstFunctionNotDescribed) ∧
    (s.mode = .user → s.cfg.traps.muuo = some .muuoSketch → exec (.xjen e) s = .next (s.enterMuuo 0o254 6 ea))

/-- A pointer is global exactly when PC section is not zero, bit 0 is 0 and bits 6-17 are not 0; it then addresses bits 6-35
globally and steps over 30 bits keeping bits 0-5; a local one addresses its right half in PC section and steps its halves
independently modulo 2^18. That a global step keeps bits 0-5 is the spec's decision D10 in R313 and R314 (log 39); past
7777,,777777 it wraps as in R313's pseudocode, where the instructions do not refuse it (log 13, log 47). (44_stack.md
section 1.) -/
def Obligations.StackPointers : Prop :=
  (∀ (ps : Sec) (sp : Word), spGlobal ps sp = true ↔ ps ≠ 0 ∧ bitAt sp 0 = false ∧ secField sp ≠ 0) ∧
  (∀ (ps : Sec) (sp : Word), stackAddr ps true sp = ⟨addrOf sp, .glob⟩ ∧ stackAddr ps false sp = ⟨mkAddr ps (rh sp), .loc⟩) ∧
  (∀ sp : Word, spInc false sp = join (lh sp + 1) (rh sp + 1) ∧ spDec false sp = join (lh sp - 1) (rh sp - 1)) ∧
  (∀ sp : Word, spInc true sp = sp.extractLsb' 30 6 ++ (addrOf sp + 1)) ∧
  (∀ sp : Word, spDec true sp = sp.extractLsb' 30 6 ++ (addrOf sp - 1))

/-- PUSH steps the pointer in AC A and stores the word at E on the stepped top; POP stores the top at E and steps the
pointer down; the format is that of the pointer before the step; here neither the count condition, the parameter
STACK_OVERFLOW (log 33), nor the top of the addresses (R313, log 47) stops the step. ADJSP is the model's choice, sum and flags
(log 34, PRESUMED: R320 gives its sum as general knowledge, not the memo's, and D28 refuses it): it adds off(E) to both halves of a
local pointer, or sign-extended to the address of a global one; of the flags only the arithmetic ones may change, to free values.
(44_stack.md section 1, 44_stack.md section 2.) -/
def Obligations.PushPop : Prop :=
  (∀ (a : AcNum) (e : AddrFields) (s : State) (ea : EA) (lt le : Loc), s.eaOf e = .ok ea →
     (s.mayStep a →
       s.locate ea .cur .read = .ok le →
       s.locate (stackAddr s.pcSec (spGlobal s.pcSec (s.x a)) (spInc (spGlobal s.pcSec (s.x a)) (s.x a))) .cur .write = .ok lt →
       exec (.push a e) s =
         .next ((s.setX a (spInc (spGlobal s.pcSec (s.x a)) (s.x a))).put lt (s.get le)).nextPc) ∧
     (s.cfg.stackOverflow = .continue ∨ spGlobal s.pcSec (s.x a) = true ∨ lh (s.x a) ≠ 0 →
       s.locate (stackAddr s.pcSec (spGlobal s.pcSec (s.x a)) (s.x a)) .cur .read = .ok lt →
       s.locate ea .cur .write = .ok le →
       exec (.pop a e) s =
         .next ((s.put le (s.get lt)).setX a (spDec (spGlobal s.pcSec (s.x a)) (s.x a))).nextPc)) ∧
  (∀ (a : AcNum) (e : AddrFields) (s : State) (ea : EA), s.eaOf e = .ok ea →
     exec (.adjsp a e) s = .next ((s.setX a
       (if spGlobal s.pcSec (s.x a) then withAddr (s.x a) (addrOf (s.x a) + sext30 (offOf ea.addr))
        else join (lh (s.x a) + offOf ea.addr) (rh (s.x a) + offOf ea.addr))).dataEnd 0o105
         [s.x a, join 0 (offOf ea.addr)] (s.pcPlus 1)))

/-- PUSHJ steps the pointer, stores the PC word on the stepped top and jumps to E; POPJ steps the pointer down and jumps
to bits 6-35 of the word popped, or in section zero to its right half in section zero; the flags are not restored. With
STACK_OVERFLOW = refuse, PUSHJ on a local pointer whose left half is 777777 and POPJ on one whose left half is 0 are
refused by name; where the spec's refusals are followed (log 47), so is PUSHJ on a global pointer at 7777,,777777 (R313).
A page fail of PUSHJ's store, its first memory reference, is taken from the state as it was, AC A included (R489).
(44_stack.md section 1, 44_stack.md section 2, 60_exceptions.md section 2.) -/
def Obligations.PushjPopj : Prop :=
  (∀ (a : AcNum) (e : AddrFields) (s : State) (ea : EA) (lt : Loc), s.eaOf e = .ok ea →
     (s.mayStep a →
       s.locate (stackAddr s.pcSec (spGlobal s.pcSec (s.x a)) (spInc (spGlobal s.pcSec (s.x a)) (s.x a))) .cur .write = .ok lt →
       exec (.pushj a e) s =
         .next (((s.setX a (spInc (spGlobal s.pcSec (s.x a)) (s.x a))).put lt s.pcWord).goto ea.addr)) ∧
     (∀ pf, s.mayStep a →
       s.locate (stackAddr s.pcSec (spGlobal s.pcSec (s.x a)) (spInc (spGlobal s.pcSec (s.x a)) (s.x a))) .cur .write = .error pf →
       s.cfg.traps.pageFail = some .pageFailSketch → exec (.pushj a e) s = .next (s.enterPageFail pf)) ∧
     (s.cfg.stackOverflow = .continue ∨ spGlobal s.pcSec (s.x a) = true ∨ lh (s.x a) ≠ 0 →
       s.locate (stackAddr s.pcSec (spGlobal s.pcSec (s.x a)) (s.x a)) .cur .read = .ok lt →
       exec (.popj a e) s = .next ((s.setX a (spDec (spGlobal s.pcSec (s.x a)) (s.x a))).goto
         (if s.pcSec ≠ 0 then addrOf (s.get lt) else mkAddr 0 (rh (s.get lt)))))) ∧
  (∀ (a : AcNum) (e : AddrFields) (s : State) (ea : EA) (l : Loc), s.eaOf e = .ok ea → s.cfg.stackOverflow = .refuse →
     spGlobal s.pcSec (s.x a) = false →
     (lh (s.x a) = 0o777777 → exec (.pushj a e) s = .refused .stackOverflow) ∧
     (lh (s.x a) = 0 → s.locate ⟨mkAddr s.pcSec (rh (s.x a)), .loc⟩ .cur .read = .ok l →
       exec (.popj a e) s = .refused .stackOverflow)) ∧
  (∀ (a : AcNum) (e : AddrFields) (s : State) (ea : EA), s.eaOf e = .ok ea → s.cfg.rulings = .refuse →
     spGlobal s.pcSec (s.x a) = true → addrOf (s.x a) = 0o7777777777 → exec (.pushj a e) s = .refused .addressTop)

/-- Source and destination start at the halves of AC A in E's section with E's flag; where the destination start is not above
off(E), the words up to off(E) are copied one by one, ascending within the section, and AC A is left a free value (log 23);
where it is above, the instruction moves one word or goes round the section, which is free (log 24). Where the spec's refusals
are followed (log 47), a start above off(E) and a last word written in AC A itself are refused instead (R366, R367).
(46_blt_xblt.md section 1.) -/
def Obligations.BltResult : Prop :=
  ∀ (a : AcNum) (e : AddrFields) (s s1 : State) (ea : EA), s.eaOf e = .ok ea →
    (rh (s.x a) ≤ offOf ea.addr →
      (s.draw 1).copy .cur .cur incLocal ((offOf ea.addr).toNat - (rh (s.x a)).toNat + 1) ⟨mkAddr (secOf ea.addr) (lh (s.x a)), ea.flag⟩
        ⟨mkAddr (secOf ea.addr) (rh (s.x a)), ea.flag⟩ = .ok s1 →
      (s.cfg.rulings = .run ∨ s.locate ea .cur .write ≠ .ok (.ac s.cab a) →
        exec (.blt a e) s = .next (s1.setFree a).nextPc) ∧
      (s.cfg.rulings = .refuse → s.locate ea .cur .write = .ok (.ac s.cab a) → exec (.blt a e) s = .refused .bltOwnAc)) ∧
    (offOf ea.addr < rh (s.x a) → s.cfg.rulings = .run →
      (s.draw 1).copy .cur .cur incLocal (if bitAt (Config.freeWord s.freeCtr) 35 = true
          then 2 ^ 18 - (rh (s.x a)).toNat + (offOf ea.addr).toNat + 1 else 1)
        ⟨mkAddr (secOf ea.addr) (lh (s.x a)), ea.flag⟩ ⟨mkAddr (secOf ea.addr) (rh (s.x a)), ea.flag⟩ = .ok s1 →
      exec (.blt a e) s = .next (s1.setFree a).nextPc) ∧
    (offOf ea.addr < rh (s.x a) → s.cfg.rulings = .refuse → exec (.blt a e) s = .refused .bltAboveE)

/-- With a count of n (bit 0 clear) and streams that do not touch ACs A to A+2, n words are copied one by one at ascending
global addresses from AC A+1 to AC A+2, which end n further, and AC A ends 0, whatever PC section is; a negative count is
refused by name. Where the spec's refusals are followed (log 47), so are a first word to be written in one of ACs A to A+2 and
a second word when a first address is 7777,,777777 (R370). (46_blt_xblt.md section 2.) -/
def Obligations.XbltResult : Prop :=
  ∀ (a : AcNum) (e0 : EA) (z : BitVec 4) (e : AddrFields) (s s1 : State),
    (s.xblts s1 a .cur .cur → exec (.xblt a e0 z e) s = .next s1.nextPc) ∧
    (bitAt (s.x a) 0 = true → exec (.xblt a e0 z e) s = .refused .xbltNegativeCount) ∧
    (∀ ls ld, s.cfg.rulings = .refuse → bitAt (s.x a) 0 = false →
      s.locate ⟨addrOf (s.x (a + 1)), .glob⟩ .cur .read = .ok ls →
      s.locate ⟨addrOf (s.x (a + 2)), .glob⟩ .cur .write = .ok ld →
      (s.x a ≠ 0 → ld ∈ [Loc.ac s.cab a, .ac s.cab (a + 1), .ac s.cab (a + 2)] →
        exec (.xblt a e0 z e) s = .refused .xbltOwnAcs) ∧
      (2 ≤ (s.x a).toNat → ld ∉ [Loc.ac s.cab a, .ac s.cab (a + 1), .ac s.cab (a + 2)] →
        addrOf (s.x (a + 1)) = 0o7777777777 ∨ addrOf (s.x (a + 2)) = 0o7777777777 →
        exec (.xblt a e0 z e) s = .refused .addressTop))

/-- EXTEND runs, in the same step, the extended instruction that the word at E0 selects: XBLT and MOVSLJ with nothing to
move, reached through EXTEND, leave what their own meanings say; an opcode word that selects none is an MUUO. The skip of
MOVSLJ is the spec's sketch (log 26), and which opcode words select no instruction is log 38; both PRESUMED. (42_extend.md
section 1, 42_extend.md section 3, 46_blt_xblt.md section 2, R346.) -/
def Obligations.ExtendSelects : Prop :=
  ∀ (a : AcNum) (e : AddrFields) (s : State) (e0 : EA) (xw : Word), s.eaOf e = .ok e0 → s.memRead e0 .cur = .ok xw →
    exec (.extend a e) s = runTop (instrWord 0o123 a e) (extendedBody a e0 (standardExtended s.cfg.opcodes xw)) s ∧
    (opField (standardExtended s.cfg.opcodes xw) = 0o020 → s.x a = 0 → exec (.extend a e) s = .next
      (((s.setX (a + 1) (wordOfAddr (addrOf (s.x (a + 1))))).setX (a + 2) (wordOfAddr (addrOf (s.x (a + 2))))).setX a 0).nextPc) ∧
    (∀ l, opField (standardExtended s.cfg.opcodes xw) = 0o016 → s.mayInc e0 → s.locate (inc e0) .cur .read = .ok l →
      s.x (a + 3) = 0 →
      exec (.extend a e) s = .next (s.goto (s.pcPlus (if s.x a = 0 then 2 else 1)))) ∧
    (0o020 < (opField (standardExtended s.cfg.opcodes xw)).toNat ∨ opField (standardExtended s.cfg.opcodes xw) = 0 → s.cfg.traps.muuo = some .muuoSketch →
      exec (.extend a e) s = .next (s.enterMuuo 0o123 a e0))

/-- With destination length 0 MOVSLJ skips exactly when no source is left; with destination length 1 and no source it steps
the destination pointer and deposits the fill; with both lengths 1 it steps the source pointer, takes its byte, steps the
destination pointer and deposits it; then it skips. For lengths in general it is round after such round until the destination
length is 0: a source byte while the source length is not 0, else the fill; then it skips exactly when no source byte is
left. (The data operation is the spec's sketch, log 26; where the stepped P+S is above 36 the byte moved is free, log 12,
where R112 refuses.) (42_extend.md section 2, 42_extend.md section 3.) -/
def Obligations.MovsljRounds : Prop :=
  ∀ (a : AcNum) (e0 : EA) (z : BitVec 4) (e : AddrFields) (s : State) (lf : Loc), s.mayInc e0 →
    s.locate (inc e0) .cur .read = .ok lf →
    (s.x (a + 3) = 0 → exec (.movslj a e0 z e) s = .next (s.goto (s.pcPlus (if s.x a = 0 then 2 else 1)))) ∧
    (∀ s1 p sz be l, s.x (a + 3) = 1 → s.x a = 0 → s.stepsString s1 .cur (a + 4) p sz be → s1.at be l →
      l ≠ .ac s.cab a → l ≠ .ac s.cab (a + 3) →
      exec (.movslj a e0 z e) s =
        .next (((s1.put l (depositByte p sz (s1.get l) (s.get lf))).setX (a + 3) 0).goto (s.pcPlus 2))) ∧
    (∀ s1 s2 p sz be l p' sz' be' l', s.x (a + 3) = 1 → s.x a = 1 → s.stepsString s1 .cur (a + 1) p sz be →
      s1.locate be .cur .read = .ok l → (s1.setX a 0).stepsString s2 .cur (a + 4) p' sz' be' → s2.at be' l' →
      l' ≠ .ac s.cab a → l' ≠ .ac s.cab (a + 3) →
      exec (.movslj a e0 z e) s =
        .next (((s2.put l' (depositByte p' sz' (s2.get l') (byteOf p sz (s1.get l)))).setX (a + 3) 0).goto (s.pcPlus 2))) ∧
    (∀ n t, n < 2 ^ 64 → s.movsljRuns a .cur .cur (s.get lf) n t → t.x (a + 3) = 0 →
      exec (.movslj a e0 z e) s = .next (t.goto (s.pcPlus (if t.x a = 0 then 2 else 1))))

/-- MOVSO, MOVST, MOVSRJ, CMPSx, CVTDBx and CVTBDx whose lengths are 0 and whose fill words and E1x exist complete: the AC
block and the skip are free values (log 27), and nothing else changes. They also complete for lengths of any size, with no
address unmapped and plain pointers whose destination string does not wrap onto the ACs: the PC is stepped by 1 or 2, the
flags, mode and context are as before (log 27; the pointer step is log 11). Fill words past 7777,,777777 are refused where
the spec's refusals are followed (log 47). (42_extend.md section 3, 41_byte.md section 2.)
-/
def Obligations.EmptyStrings : Prop :=
  (∀ (a : AcNum) (e0 e1 : EA) (z : BitVec 4) (e : AddrFields) (s : State) (l1 l2 : Loc),
       s.x a = 0 → s.x (a + 3) = 0 → s.mayInc e0 → s.mayInc (inc e0) → s.locate (inc e0) .cur .read = .ok l1 → s.locate (inc (inc e0)) .cur .read = .ok l2 →
       s.eaCalc (.ifiw e) (secOf e0.addr) .cur = .ok e1 →
       ∀ i ∈ ([.movso, .movst, .movsrj, .cmpsl, .cmpse, .cmpsle, .cmpsge, .cmpsn, .cmpsg, .cvtdbo, .cvtdbt, .cvtbdo, .cvtbdt] :
           List (AcNum → EA → BitVec 4 → AddrFields → Instr)), EmptyStringForm (i a e0 z e) a s) ∧
  (∀ (a : AcNum) (e0 e1 : EA) (z : BitVec 4) (e : AddrFields) (s : State), configAdmitsAll s.cfg →
    s.cfg.byteIncrement = .standard → s.mayInc e0 → s.mayInc (inc e0) → s.eaCalc (.ifiw e) (secOf e0.addr) .cur = .ok e1 →
    plainPointer (s.x (a + 1)) → plainPointer (s.x (a + 4)) → 0o17 < (rh (s.x (a + 4))).toNat →
    (rh (s.x (a + 4))).toNat + (s.x (a + 3)).toNat < 2 ^ 18 →
    ∀ i ∈ ([.movso, .movst, .movsrj, .cmpsl, .cmpse, .cmpsle, .cmpsge, .cmpsn, .cmpsg, .cvtdbo, .cvtdbt, .cvtbdo, .cvtbdt] :
        List (AcNum → EA → BitVec 4 → AddrFields → Instr)),
      ∃ t, exec (i a e0 z e) s = .next t ∧ (t.pc = s.pcPlus 1 ∨ t.pc = s.pcPlus 2) ∧ t.flags = s.flags ∧ t.mode = s.mode ∧
        t.context = s.context)

/-- In a non-zero section, with no address unmapped, the default BYTE_INCREMENT, plain pointers of byte size 0 to memory and E1x
computed, EDIT completes whatever the free counts are (log 27, log 28), but that the pattern words end at or before 7777,,777777
where the spec's refusals are followed (log 47): the PC is stepped by 1 or 2, the flags, mode and context are as before, and every
AC outside its block and every word but the one at the mark address is unchanged. (42_extend.md section 3.) -/
def Obligations.EditCompletes : Prop :=
  ∀ (a : AcNum) (e0 e1 : EA) (z : BitVec 4) (e : AddrFields) (s : State) (y1 y2 : Half), Memory.wf s.mem = true →
    configAdmitsAll s.cfg → s.cfg.byteIncrement = .standard → s.pcSec ≠ 0 →
    s.eaCalc (.ifiw e) (secOf e0.addr) .cur = .ok e1 → 0o17 < y1.toNat → 0o17 < y2.toNat →
    s.x (a + 1) = join 0 y1 → s.x (a + 4) = join 0 y2 →
    s.cfg.rulings = .run ∨ (addrOf (s.x a)).toNat + (Config.freeWord s.freeCtr).toNat ≤ 2 ^ 30 →
    ∃ t : State, exec (.edit a e0 z e) s = .next t ∧ (t.pc = s.pcPlus 1 ∨ t.pc = s.pcPlus 2) ∧ t.flags = s.flags ∧
      t.mode = s.mode ∧ t.context = s.context ∧
      (∀ n : AcNum, n ∉ [a, a + 1, a + 2, a + 3, a + 4, a + 5] →
        s.locate ⟨addrOf (s.x (a + 3)), .glob⟩ .cur .write ≠ .ok (.ac s.cab n) → t.x n = s.x n) ∧
      (∀ p, s.locate ⟨addrOf (s.x (a + 3)), .glob⟩ .cur .write ≠ .ok (.cell p) →
        Memory.read t.mem p = Memory.read s.mem p)

/-- A CMPSx or CVTDBx that gives a next state leaves all of memory, the flags, the mode and the context as they were, every
AC outside A to A+5 unchanged, and the PC stepped by 1 or 2, or it has taken a page fail when nothing but ACs had been
written; whatever the trap layout. Where no page fail is taken, the six CMPSx at one state agree on one order of the two
strings, and each skips exactly when its own relation holds of that order (R242). That no flag changes and only ACs A to A+5
do, and the order itself, is the model's choice (log 27, unsafe there). (42_extend.md section 3, 42_extend.md section 1.) -/
def Obligations.ReadingStringsStoreNothing : Prop :=
  (∀ i ∈ ([.cmpsl, .cmpse, .cmpsle, .cmpsge, .cmpsn, .cmpsg, .cvtdbo, .cvtdbt] :
      List (AcNum → EA → BitVec 4 → AddrFields → Instr)),
    ∀ (a : AcNum) (e0 : EA) (z : BitVec 4) (e : AddrFields) (s t : State), exec (i a e0 z e) s = .next t →
      (t.mem = s.mem ∧ t.flags = s.flags ∧ t.mode = s.mode ∧ t.context = s.context ∧
        (t.pc = s.pcPlus 1 ∨ t.pc = s.pcPlus 2) ∧
        (∀ n : AcNum, n ∉ [a, a + 1, a + 2, a + 3, a + 4, a + 5] → t.x n = s.x n)) ∨ s.pageFails t) ∧
  (∀ (a : AcNum) (e0 : EA) (z : BitVec 4) (e : AddrFields) (s : State), ∃ o : Ordering,
    ∀ p ∈ ([(.cmpsl, Ordering.isLT), (.cmpse, Ordering.isEq), (.cmpsle, Ordering.isLE), (.cmpsge, Ordering.isGE),
        (.cmpsn, Ordering.isNe), (.cmpsg, Ordering.isGT)] : List ((AcNum → EA → BitVec 4 → AddrFields → Instr) × (Ordering → Bool))),
      ∀ t, exec (p.1 a e0 z e) s = .next t → t.pc = s.pcPlus (if p.2 o then 2 else 1) ∨ s.pageFails t)

/-- An XCT of MOVE, SKIPA, JSP or JRST: E of the executed word is computed in the section it was fetched from; the next
instruction is XCT+1 (XCT+2 on a skip), the PC stored is XCT+1, and a jump goes to the executed word's E. (48_xct_pxct.md
section 1.) -/
def Obligations.XctRuns : Prop :=
  ∀ (e e' : AddrFields) (a : AcNum) (s : State) (ea ea' : EA) (w : Word), s.eaOf e = .ok ea → s.memRead ea .cur = .ok w →
    s.eaCalc (.ifiw e') (secOf ea.addr) .cur = .ok ea' →
    (∀ l, decode (standardWord s.cfg.opcodes w) = .move a e' → s.locate ea' .cur .read = .ok l →
      exec (.xct e) s = .next (s.setX a (s.get l)).nextPc) ∧
    (∀ l, decode (standardWord s.cfg.opcodes w) = .skipa a e' → a ≠ 0 → s.locate ea' .cur .read = .ok l →
      exec (.xct e) s = .next ((s.setX a (s.get l)).goto (s.pcPlus 2))) ∧
    (decode (standardWord s.cfg.opcodes w) = .jsp a e' → exec (.xct e) s = .next ((s.setX a s.pcWord).goto ea'.addr)) ∧
    (decode (standardWord s.cfg.opcodes w) = .jrst e' → exec (.xct e) s = .next (s.goto ea'.addr))

/-- In exec mode, PXCT 4 computes E in current context, gives a local result PCS as its section, and makes the data reference
in previous context; PXCT 14 computes E in previous context from PCS and makes the data reference there; so for MOVE and
MOVEM, for PUSH and POP, whose stack reference stays in current context, and for MAP, which asks about E in previous context
(R457, log 36); PXCT 10 of XMOVEI and MOVEI loads AC A from an E
computed in previous context from PCS. AC A and the stack pointer are current. (48_xct_pxct.md section 3, 48_xct_pxct.md
section 4.) -/
def Obligations.PxctMoves : Prop :=
  (∀ (e e' : AddrFields) (a : AcNum) (s : State) (ea ea' : EA) (w : Word) (l : Loc), s.mode = .exec → s.eaOf e = .ok ea →
       s.memRead ea .cur = .ok w →
       (s.eaCalc (.ifiw e') (secOf ea.addr) .cur = .ok ea' →
         let ref : EA := s.toPrev ea'
         (decode (standardWord s.cfg.opcodes w) = .move a e' → s.locate ref .prev .read = .ok l →
           exec (.pxct 4 e) s = .next (s.setX a (s.get l)).nextPc) ∧
         (decode (standardWord s.cfg.opcodes w) = .movem a e' → s.locate ref .prev .write = .ok l →
           exec (.pxct 4 e) s = .next (s.put l (s.x a)).nextPc)) ∧
       (s.eaCalc (.ifiw e') s.pcs .prev = .ok ea' →
         (decode (standardWord s.cfg.opcodes w) = .move a e' → s.locate ea' .prev .read = .ok l →
           exec (.pxct 0o14 e) s = .next (s.setX a (s.get l)).nextPc) ∧
         (decode (standardWord s.cfg.opcodes w) = .movem a e' → s.locate ea' .prev .write = .ok l →
           exec (.pxct 0o14 e) s = .next (s.put l (s.x a)).nextPc))) ∧
  (∀ (e e' : AddrFields) (a : AcNum) (s : State) (ea ea' ref : EA) (w : Word) (n : AcNum) (le lt : Loc), s.mode = .exec →
    s.eaOf e = .ok ea → s.memRead ea .cur = .ok w →
    (n = 4 ∧ s.eaCalc (.ifiw e') (secOf ea.addr) .cur = .ok ea' ∧ ref = s.toPrev ea') ∨
      (n = 0o14 ∧ s.eaCalc (.ifiw e') s.pcs .prev = .ok ea' ∧ ref = ea') →
    (decode (standardWord s.cfg.opcodes w) = .push a e' → s.mayStep a → s.locate ref .prev .read = .ok le →
      s.locate (stackAddr s.pcSec (spGlobal s.pcSec (s.x a)) (spInc (spGlobal s.pcSec (s.x a)) (s.x a))) .cur .write = .ok lt →
      exec (.pxct n e) s = .next ((s.setX a (spInc (spGlobal s.pcSec (s.x a)) (s.x a))).put lt (s.get le)).nextPc) ∧
    (decode (standardWord s.cfg.opcodes w) = .pop a e' →
      s.cfg.stackOverflow = .continue ∨ spGlobal s.pcSec (s.x a) = true ∨ lh (s.x a) ≠ 0 →
      s.locate ref .prev .write = .ok le →
      s.locate (stackAddr s.pcSec (spGlobal s.pcSec (s.x a)) (s.x a)) .cur .read = .ok lt →
      exec (.pxct n e) s = .next ((s.put le (s.get lt)).setX a (spDec (spGlobal s.pcSec (s.x a)) (s.x a))).nextPc) ∧
    (decode (standardWord s.cfg.opcodes w) = .map a e' →
      exec (.pxct n e) s = .next ((s.setX a (s.mapAnswer ref .prev)).draw 1).nextPc)) ∧
  (∀ (e e' : AddrFields) (a : AcNum) (s : State) (ea ea' : EA) (w : Word), s.mode = .exec → s.eaOf e = .ok ea →
    s.memRead ea .cur = .ok w → s.eaCalc (.ifiw e') s.pcs .prev = .ok ea' →
    (decode (standardWord s.cfg.opcodes w) = .xmovei a e' →
      exec (.pxct 0o10 e) s = .next (s.setX a (wordOfAddr (convE ea'))).nextPc) ∧
    (decode (standardWord s.cfg.opcodes w) = .movei a e' →
      exec (.pxct 0o10 e) s = .next (s.setX a (join 0 (offOf ea'.addr))).nextPc))

/-- General instructions and PUSH and POP admit 4 and 14; immediates 10 (and 14, which R444 takes as 10); BLT 5 and 15; byte
instructions 1, 3, 7 and 17; MOVSLJ and XBLT 1, 2 and 3; and no class admits another value. That an immediate takes 14 as 10
is R444's own inference, and that every other value is turned away is the spec's decision D23 (log 31). (48_xct_pxct.md
section 2.) -/
def Obligations.PxctLegalValues : Prop :=
  (∀ n : AcNum, PxClass.general.legal (pxOf n) = true ↔ n = 0o4 ∨ n = 0o14) ∧
  (∀ n : AcNum, PxClass.stack.legal (pxOf n) = true ↔ n = 0o4 ∨ n = 0o14) ∧
  (∀ n : AcNum, PxClass.immediate.legal (pxOf n) = true ↔ n = 0o10 ∨ n = 0o14) ∧
  (∀ n : AcNum, PxClass.blt.legal (pxOf n) = true ↔ n = 0o5 ∨ n = 0o15) ∧
  (∀ n : AcNum, PxClass.byte.legal (pxOf n) = true ↔ n = 1 ∨ n = 3 ∨ n = 7 ∨ n = 0o17) ∧
  (∀ (n : AcNum) (s : Sec), Frame.guardExt ⟨s, some (pxOf n)⟩ true = .ok () ↔ n = 1 ∨ n = 2 ∨ n = 3)

/-- In exec mode a PXCT of MOVE with a field other than 4 and 14 is refused by name, and a PXCT of JRST, PUSHJ, LSH, XCT or
JSYS, with any field, is refused by name; in user mode every PXCT is refused, or a PXCT of MOVE does what an XCT of it does
(PRESUMED, log 30), as the parameter for the spec's refusals says (log 47). The refusals in exec mode are the model's choice
where R445 says undefined (log 31; D14, D23). (48_xct_pxct.md section 2, 48_xct_pxct.md
section 5.) -/
def Obligations.PxctRefusals : Prop :=
  (∀ (e e' : AddrFields) (n a : AcNum) (s : State) (ea : EA) (w : Word), s.mode = .exec → s.eaOf e = .ok ea →
    s.memRead ea .cur = .ok w →
    (decode (standardWord s.cfg.opcodes w) = .move a e' → n ≠ 4 → n ≠ 0o14 → exec (.pxct n e) s = .refused .pxctIllegalBits) ∧
    (decode (standardWord s.cfg.opcodes w) = .jrst e' ∨ decode (standardWord s.cfg.opcodes w) = .pushj a e' ∨ decode (standardWord s.cfg.opcodes w) = .lsh a e' ∨ decode (standardWord s.cfg.opcodes w) = .xct e' ∨ decode (standardWord s.cfg.opcodes w) = .jsys a e' →
      exec (.pxct n e) s = .refused .pxctInapplicable)) ∧
  (∀ (e e' : AddrFields) (n a : AcNum) (s : State) (ea ea' : EA) (w : Word) (l : Loc), s.mode = .user →
    s.eaOf e = .ok ea → s.memRead ea .cur = .ok w → decode (standardWord s.cfg.opcodes w) = .move a e' →
    s.eaCalc (.ifiw e') (secOf ea.addr) .cur = .ok ea' → s.locate ea' .cur .read = .ok l → s.cfg.rulings = .run →
    exec (.pxct n e) s = .next (s.setX a (s.get l)).nextPc) ∧
  (∀ (e : AddrFields) (n : AcNum) (s : State) (ea : EA), s.mode = .user → s.eaOf e = .ok ea → s.cfg.rulings = .refuse →
    exec (.pxct n e) s = .refused .pxctInUserMode)

/-- For every LUUO opcode with PC section non-zero: by the sketch, the block that word 420 of the UPT (user) or EPT (exec) addresses
receives the flags with opcode and AC field, PC+1 as 30 bits, and ConvE(E), and control goes to bits 6-35 of its fourth word; the
mode and the context do not change. The block is addressed globally, which is refused past 7777,,777777 where the spec's refusals
are followed (log 47), or physically, as the parameter says (log 20). For any other layout of TRAP_LAYOUT whose block is addressed
physically, its words stand at their numbers and control goes to the word it names; nothing else changes. (R343, R344,
60_exceptions.md section 2.) -/
def Obligations.LuuoBlock : Prop :=
  ∀ p ∈ ([(0o01, .luuo01), (0o02, .luuo02), (0o03, .luuo03), (0o04, .luuo04), (0o05, .luuo05), (0o06, .luuo06),
      (0o07, .luuo07), (0o10, .luuo10), (0o11, .luuo11), (0o12, .luuo12), (0o13, .luuo13), (0o14, .luuo14),
      (0o15, .luuo15), (0o16, .luuo16), (0o17, .luuo17), (0o20, .luuo20), (0o21, .luuo21), (0o22, .luuo22),
      (0o23, .luuo23), (0o24, .luuo24), (0o25, .luuo25), (0o26, .luuo26), (0o27, .luuo27), (0o30, .luuo30),
      (0o31, .luuo31), (0o32, .luuo32), (0o33, .luuo33), (0o34, .luuo34), (0o35, .luuo35), (0o36, .luuo36),
      (0o37, .luuo37)] :
      List (BitVec 9 × (AcNum → AddrFields → Instr))),
    ∀ (a : AcNum) (e : AddrFields) (s : State) (ea b : EA) (k : Nat) (l0 l1 l2 l3 : Loc), s.eaOf e = .ok ea → s.pcSec ≠ 0 →
      (k = ((if s.mode = .user then s.upt else s.ept).toNat + 0o420) →
        ((s.cfg.traps.luuoBlock = some (.sketch .current) ∧ b = ⟨addrOf (Memory.read s.mem k), .glob⟩ ∧
            (s.cfg.rulings = .run ∨ b.addr.toNat + 3 < 2 ^ 30) ∧
            s.locate b .cur .write = .ok l0 ∧ s.locate (inc b) .cur .write = .ok l1 ∧
            s.locate (inc (inc b)) .cur .write = .ok l2 ∧ s.locate (inc (inc (inc b))) .cur .read = .ok l3) ∨
          (s.cfg.traps.luuoBlock = some (.sketch (.placed none)) ∧ l0 = .cell (Memory.read s.mem k).toNat ∧
            l1 = .cell ((Memory.read s.mem k).toNat + 1) ∧ l2 = .cell ((Memory.read s.mem k).toNat + 2) ∧
            l3 = .cell ((Memory.read s.mem k).toNat + 3))) →
        let s1 := ((s.put l0 (s.flagsAndOpcode p.1 a)).put l1 (wordOfAddr (s.pcPlus 1))).put l2
          (wordOfAddr (convE ea))
        exec (p.2 a e) s = .next (s1.goto (addrOf (s1.get l3)))) ∧
      (∀ lb, s.cfg.traps.luuoBlock = some lb → lb.addressing = .placed none → apart lb.words → Memory.wf s.mem = true →
        ∃ t, exec (p.2 a e) s = .next t ∧
          s.storedAt t (s.luuoPointer lb).toNat (s.trapWords (luuoData s p.1 a ea) lb.words) ∧
          t.pc = addrOf (Memory.read t.mem ((s.luuoPointer lb).toNat + lb.newPc)) ∧
          t.flags = s.flags ∧ t.mode = s.mode ∧ t.context = s.context ∧ t.acs = s.acs)

/-- For every LUUO opcode with PC section zero: the word that TRAP_LAYOUT makes of the event is stored at 0,,40, by the sketch
opcode, AC field and off(E), and the instruction at 0,,41 is executed as by XCT: a JRST there jumps to its address, a JSR there
stores the LUUO's PC+1 and jumps past it. (R342.) -/
def Obligations.LuuoSectionZero : Prop :=
  ∀ p ∈ ([(0o01, .luuo01), (0o02, .luuo02), (0o03, .luuo03), (0o04, .luuo04), (0o05, .luuo05), (0o06, .luuo06),
      (0o07, .luuo07), (0o10, .luuo10), (0o11, .luuo11), (0o12, .luuo12), (0o13, .luuo13), (0o14, .luuo14),
      (0o15, .luuo15), (0o16, .luuo16), (0o17, .luuo17), (0o20, .luuo20), (0o21, .luuo21), (0o22, .luuo22),
      (0o23, .luuo23), (0o24, .luuo24), (0o25, .luuo25), (0o26, .luuo26), (0o27, .luuo27), (0o30, .luuo30),
      (0o31, .luuo31), (0o32, .luuo32), (0o33, .luuo33), (0o34, .luuo34), (0o35, .luuo35), (0o36, .luuo36),
      (0o37, .luuo37)] :
      List (BitVec 9 × (AcNum → AddrFields → Instr))),
    ∀ (a : AcNum) (e : AddrFields) (s : State) (ea : EA) (l0 l1 : Loc) (fs : List TrapField), s.eaOf e = .ok ea → s.pcSec = 0 →
      s.cfg.traps.luuo40 = some fs → s.locate ⟨0o40, .loc⟩ .cur .write = .ok l0 → s.locate ⟨0o41, .loc⟩ .cur .read = .ok l1 →
      let s1 := s.put l0 (s.assemble (luuoData s p.1 a ea) fs)
      (fs = luuo40Sketch → s1 = s.put l0 (s.implementedWord p.1 a ⟨false, 0, offOf ea.addr⟩)) ∧
      (∀ y, decode (standardWord s.cfg.opcodes (s1.get l1)) = .jrst ⟨false, 0, y⟩ → exec (p.2 a e) s = .next (s1.goto (mkAddr 0 y))) ∧
      (∀ b y l, decode (standardWord s.cfg.opcodes (s1.get l1)) = .jsr b ⟨false, 0, y⟩ → s1.locate ⟨mkAddr 0 y, .loc⟩ .cur .write = .ok l →
        exec (p.2 a e) s = .next ((s1.put l s.pcWord).goto (mkAddr 0 (y + 1))))

/-- Every MUUO opcode (000, 040 to 077, the unassigned codes, JSYS), every unassigned JRST function, and in user mode the
privileged JRST functions and the input-output instructions, enters the monitor with its opcode, its AC field and its E,
computed first. Which codes are MUUOs is log 38, and which are privileged in user mode is log 29; both PRESUMED. (R346, R347,
43_jumps.md section 2, 43_jumps.md section 5, 60_exceptions.md section 4.) -/
def Obligations.MuuosEnterTheMonitor : Prop :=
  (∀ p ∈ ([(0o000, .muuo000), (0o100, .muuo100), (0o101, .muuo101), (0o102, .muuo102), (0o103, .muuo103), (0o106, .muuo106), (0o107, .muuo107), (0o247, .muuo247), (0o104, .jsys), (0o141, .muuo141), (0o151, .muuo151), (0o161, .muuo161), (0o171, .muuo171)] :
      List (BitVec 9 × (AcNum → AddrFields → Instr))), MuuoForm p) ∧
  (∀ lo : BitVec 5, MuuoForm ((1 : BitVec 4) ++ lo, .muuo040 lo)) ∧
  (∀ p ∈ ([(0o03, .muuoJrst03), (0o11, .muuoJrst11), (0o13, .muuoJrst13), (0o16, .muuoJrst16), (0o17, .muuoJrst17)] :
      List (AcNum × (AddrFields → Instr))), MuuoFnForm (fun _ => True) p) ∧
  (∀ p ∈ ([(0o04, .halt), (0o06, .xjen), (0o07, .xpcw), (0o10, .jrst10), (0o12, .jen)] :
      List (AcNum × (AddrFields → Instr))), MuuoFnForm (fun s => s.mode = .user) p) ∧
  (∀ (r : BitVec 33) (s : State) (ea : EA), s.eaOf (fieldsOf ((7 : BitVec 3) ++ r)) = .ok ea → s.mode = .user →
    s.cfg.traps.muuo = some .muuoSketch →
    exec (.io r) s = .next (s.enterMuuo (opField ((7 : BitVec 3) ++ r)) (acField ((7 : BitVec 3) ++ r)) ea))

/-- UPT 424 holds the flags and the opcode and AC field, 425 PC+1, 426 ConvE(E), 427 the process-context word; the PC is bits
6-35 of the UPT word for the old mode and public flag; the mode is exec; PCU says whether the old mode was user, PAB is the
old CAB, PCS the old PC section; no AC and no other word changes. The first word is the flags in bits 0-12 with the opcode
and AC field in bits 18-30 where FLAGS_LAYOUT and OPCODES are at their defaults. These are the sketch's places (log 17); for any
other entry of TRAP_LAYOUT in a process table or in a block that a process-table word addresses physically (R485, R487), a JSYS,
standing for every MUUO, leaves the entry's words at their numbers and takes the PC from the word it names for the old mode and
public flag. (60_exceptions.md section 2, 60_exceptions.md section 3.) -/
def Obligations.MuuoEntry : Prop :=
  (∀ (s : State) (op : BitVec 9) (a : AcNum) (ea : EA), Memory.wf s.mem = true →
       let t := s.enterMuuo op a ea
       Memory.read t.mem (s.upt.toNat + 0o424) = s.flagsAndOpcode op a ∧
       Memory.read t.mem (s.upt.toNat + 0o425) = wordOfAddr (s.pcPlus 1) ∧
       Memory.read t.mem (s.upt.toNat + 0o426) = wordOfAddr (convE ea) ∧
       Memory.read t.mem (s.upt.toNat + 0o427) = Config.processContextWord s.cab s.pab s.pcs ∧
       (∀ p, p < s.upt.toNat + 0o424 ∨ s.upt.toNat + 0o427 < p → Memory.read t.mem p = Memory.read s.mem p) ∧
       t.pc = addrOf (Memory.read s.mem (s.upt.toNat + 0o430 + (if s.mode = .user then 4 else 0) +
         (if publicFlag s.flags then 2 else 0))) ∧
       t.mode = .exec ∧ userFlag t.flags = false ∧ userIoFlag t.flags = userFlag s.flags ∧
       t.context = s.contextAfterTrap ∧ t.acs = s.acs) ∧
  (∀ (s : State) (op : BitVec 9) (a : AcNum), s.cfg.opcodes.ops = [] → s.cfg.opcodes.jrst = [] → s.cfg.flagsLayout = .standard →
    s.flagsAndOpcode op a = s.flags ++ (0 : BitVec 5) ++ (op ++ a ++ (0 : BitVec 5) : Half)) ∧
  (∀ (s : State) (a : AcNum) (e : AddrFields) (ea : EA) (en : TrapEntry), Memory.wf s.mem = true → s.eaOf e = .ok ea →
    s.cfg.traps.muuo = some en → s.entersPhysically en .upt →
    ∃ t, exec (.jsys a e) s = .next t ∧
      s.enteredAt t (s.blockBase en.base .upt).2.toNat (s.trapWords (s.muuoData 0o104 a ea) en.words)
        ((s.blockBase en.newPc.base .upt).2.toNat + s.newPcNumber en.newPc))

/-- UPT 500 holds the user bit (bit 0), five free code bits and ConvE of the reference that failed, 501 the flags, 502 the PC
of the instruction; the PC is bits 6-35 of UPT 503; mode and context as after an MUUO; no AC and no other word changes. These
are the sketch's places (log 17); for any other entry of TRAP_LAYOUT in a process table or in a block that a process-table word
addresses physically (R485, R487), the UPT or EPT by the space of the reference unless the entry names one (R481), the entry's words
stand at their numbers and the PC comes from the word it names: here for a page fail of MOVE's EA-calc. (60_exceptions.md section 1, 60_exceptions.md section 2,
60_exceptions.md section 3.) -/
def Obligations.PageFailEntry : Prop :=
  (∀ (s : State) (pf : PageFail), Memory.wf s.mem = true →
       let t := s.enterPageFail pf
       (∃ code : BitVec 5, Memory.read t.mem (s.upt.toNat + 0o500) =
         BitVec.ofBool (s.space pf.ctx == .user) ++ code ++ convE pf.ref) ∧
       Memory.read t.mem (s.upt.toNat + 0o501) = flagsPC s.cfg.flagsLayout s.flags 0 ∧
       Memory.read t.mem (s.upt.toNat + 0o502) = wordOfAddr s.pc ∧
       (∀ p, p < s.upt.toNat + 0o500 ∨ s.upt.toNat + 0o502 < p → Memory.read t.mem p = Memory.read s.mem p) ∧
       t.pc = addrOf (Memory.read s.mem (s.upt.toNat + 0o503)) ∧
       t.mode = .exec ∧ userFlag t.flags = false ∧ userIoFlag t.flags = userFlag s.flags ∧
       t.context = s.contextAfterTrap ∧ t.acs = s.acs) ∧
  (∀ (s : State) (a : AcNum) (e : AddrFields) (pf : PageFail) (en : TrapEntry), Memory.wf s.mem = true →
    s.eaOf e = .error (.pageFail pf) → s.cfg.traps.pageFail = some en → s.entersPhysically en (s.pageFailTable pf) →
    ∃ t, exec (.move a e) s = .next t ∧
      s.enteredAt t (s.blockBase en.base (s.pageFailTable pf)).2.toNat
        (s.trapWords (s.pageFailData (some (instrWord 0o200 a e)) pf) en.words)
        ((s.blockBase en.newPc.base (s.pageFailTable pf)).2.toNat + s.newPcNumber en.newPc))

/-- Where TRAP_LAYOUT does not supply an entry, an MUUO, an LUUO (either mechanism) and a page fail of the EA-calc give no
next state; the fault carries the event the spec describes: kind, table, opcode and AC field, PC+1, ConvE of the address,
flags. (No table goes with an LUUO in section zero, log 17; the codes reported are the implementation's, log 45.)
(60_exceptions.md section 1.) -/
def Obligations.TerminalTraps : Prop :=
  ∀ (a : AcNum) (e : AddrFields) (s : State),
    (∀ ea, s.eaOf e = .ok ea → s.cfg.traps.muuo = none → exec (.jsys a e) s =
      .fault (.terminalTrap ⟨.muuo, some .upt, some (implemented s.cfg.opcodes 0o104 a), some (s.pcPlus 1), convE ea, s.flags⟩)) ∧
    (∀ ea, s.eaOf e = .ok ea → s.pcSec ≠ 0 → s.cfg.traps.luuoBlock = none → exec (.luuo01 a e) s =
      .fault (.terminalTrap ⟨.luuo, some (if s.mode = .user then .upt else .ept), some (implemented s.cfg.opcodes 1 a), some (s.pcPlus 1), convE ea, s.flags⟩)) ∧
    (∀ ea, s.eaOf e = .ok ea → s.pcSec = 0 → s.cfg.traps.luuo40 = none → exec (.luuo01 a e) s =
      .fault (.terminalTrap ⟨.luuo0, none, some (implemented s.cfg.opcodes 1 a), none, mkAddr 0 (offOf ea.addr), s.flags⟩)) ∧
    (∀ pf, s.eaOf e = .error (.pageFail pf) → s.cfg.traps.pageFail = none → exec (.move a e) s =
      .fault (.terminalTrap ⟨.pageFail, some (if s.space pf.ctx = .user then .upt else .ept), some (implemented s.cfg.opcodes 0o200 a), none, convE pf.ref, s.flags⟩))

/-- PORTAL and SFM in either mode, and HALT, XPCW, JRST 10, JEN and the input-output instructions in exec mode, are refused
by name after their EA-calc (log 29). (43_jumps.md section 2, 47_general.md section 4.) -/
def Obligations.UndescribedInstructionsStop : Prop :=
  (∀ (e : AddrFields) (s : State) (ea : EA), s.eaOf e = .ok ea →
    exec (.portal e) s = .refused .jrstFunctionNotDescribed ∧ exec (.sfm e) s = .refused .jrstFunctionNotDescribed ∧
    (s.mode = .exec →
      exec (.halt e) s = .refused .jrstFunctionNotDescribed ∧ exec (.xpcw e) s = .refused .jrstFunctionNotDescribed ∧
      exec (.jrst10 e) s = .refused .jrstFunctionNotDescribed ∧ exec (.jen e) s = .refused .jrstFunctionNotDescribed)) ∧
  (∀ (r : BitVec 33) (s : State) (ea : EA), s.eaOf (fieldsOf ((7 : BitVec 3) ++ r)) = .ok ea → s.mode = .exec →
    exec (.io r) s = .refused .ioNotDescribed)

/-- In exec mode: a PXCT 1, 3, 7 or 17 of LDB or DPB with a one-word local pointer finds the pointer in current context (1,
3) or previous context (7 by an E computed in current context, 17 by one computed in previous context), computes its address
in current context (1) or in previous context from PCS (3, 7, 17), and makes the byte reference in previous context; AC A is
current. A PXCT 5 or 15 of BLT copies within the previous context, E computed in current (5) or previous context (15), its
count condition and AC A as without PXCT (log 23, log 24, log 47). A PXCT 1, 2 or 3 of EXTEND computes E0 and reads the opcode word
in current context; an XBLT or MOVSLJ there takes its source from previous context where bit 2 is set and its destination
there where bit 1 is set (the rounds of MOVSLJ: log 26). (48_xct_pxct.md section 4, 41_byte.md section 1, 42_extend.md
section 3, 46_blt_xblt.md section 1, 46_blt_xblt.md section 2.) -/
def Obligations.PxctBytesAndBlocks : Prop :=
  (∀ (e e' : AddrFields) (a n : AcNum) (s : State) (ea ea' ptr be ref : EA) (c : Ctx) (w w1 : Word) (l : Loc), s.mode = .exec →
    s.eaOf e = .ok ea → s.memRead ea .cur = .ok w →
    (((n = 1 ∨ n = 3) ∧ s.eaCalc (.ifiw e') (secOf ea.addr) .cur = .ok ea' ∧ ptr = ea' ∧ c = .cur) ∨
      (n = 7 ∧ s.eaCalc (.ifiw e') (secOf ea.addr) .cur = .ok ea' ∧ ptr = s.toPrev ea' ∧ c = .prev) ∨
      (n = 0o17 ∧ s.eaCalc (.ifiw e') s.pcs .prev = .ok ea' ∧ ptr = ea' ∧ c = .prev)) →
    s.memRead ptr c = .ok w1 → decodeBP w1 (secOf ptr.addr) = .oneLocal →
    ((n = 1 ∧ s.eaCalc (.ifiw (fieldsOf w1)) (secOf ptr.addr) .cur = .ok be ∧ ref = s.toPrev be) ∨
      (n ≠ 1 ∧ s.eaCalc (.ifiw (fieldsOf w1)) s.pcs .prev = .ok be ∧ ref = be)) →
    (decode (standardWord s.cfg.opcodes w) = .ldb a e' → s.locate ref .prev .read = .ok l →
      exec (.pxct n e) s = .next (s.setX a (byteOf (bpP w1).toNat (bpS w1).toNat (s.get l))).nextPc) ∧
    (decode (standardWord s.cfg.opcodes w) = .dpb a e' → s.atIn .prev ref l →
      exec (.pxct n e) s =
        .next (s.put l (depositByte (bpP w1).toNat (bpS w1).toNat (s.get l) (s.x a))).nextPc)) ∧
  (∀ (e e' : AddrFields) (a n : AcNum) (s s1 : State) (ea ea' ref : EA) (w : Word), s.mode = .exec → s.eaOf e = .ok ea →
    s.memRead ea .cur = .ok w → decode (standardWord s.cfg.opcodes w) = .blt a e' →
    (n = 5 ∧ s.eaCalc (.ifiw e') (secOf ea.addr) .cur = .ok ea' ∧ ref = s.toPrev ea') ∨
      (n = 0o15 ∧ s.eaCalc (.ifiw e') s.pcs .prev = .ok ea' ∧ ref = ea') →
    rh (s.x a) ≤ offOf ref.addr → s.cfg.rulings = .run ∨ s.locate ref .prev .write ≠ .ok (.ac s.cab a) →
    (s.draw 1).copy .prev .prev incLocal ((offOf ref.addr).toNat - (rh (s.x a)).toNat + 1)
      ⟨mkAddr (secOf ref.addr) (lh (s.x a)), ref.flag⟩ ⟨mkAddr (secOf ref.addr) (rh (s.x a)), ref.flag⟩ = .ok s1 →
    exec (.pxct n e) s = .next (s1.setFree a).nextPc) ∧
  (∀ (e e' : AddrFields) (a n : AcNum) (s : State) (ea e0 : EA) (cs cd : Ctx) (w xw : Word), s.mode = .exec →
    s.eaOf e = .ok ea → s.memRead ea .cur = .ok w → decode (standardWord s.cfg.opcodes w) = .extend a e' →
    s.eaCalc (.ifiw e') (secOf ea.addr) .cur = .ok e0 → s.memRead e0 .cur = .ok xw →
    (n = 1 ∧ cs = .cur ∧ cd = .prev) ∨ (n = 2 ∧ cs = .prev ∧ cd = .cur) ∨ (n = 3 ∧ cs = .prev ∧ cd = .prev) →
    (∀ s1, opField (standardExtended s.cfg.opcodes xw) = 0o020 → s.xblts s1 a cs cd → exec (.pxct n e) s = .next s1.nextPc) ∧
    (∀ k t lf, opField (standardExtended s.cfg.opcodes xw) = 0o016 → s.mayInc e0 → s.locate (inc e0) .cur .read = .ok lf →
      k < 2 ^ 64 →
      s.movsljRuns a cs cd (s.get lf) k t → t.x (a + 3) = 0 →
      exec (.pxct n e) s = .next (t.goto (s.pcPlus (if t.x a = 0 then 2 else 1)))))
end

