-- ==== Sys2Proof/Laws/Execute.lean ====
section
/-! SUPPORT. The meaning of a word is the decoder followed by the meaning of the decoded instruction: `exec` and `executeWith` run
the same bodies. -/

namespace Sys2Proof.Machine

/-- The body of every instruction; `run` executes the words that XCT, PXCT and the LUUOs fetch. -/
def bodyOf (run : RunWord) (i : Instr) : Body :=
  match i with
  | .muuo000 a e => bodyMuuo000 a e
  | .luuo01 a e => bodyLuuo01 run a e
  | .luuo02 a e => bodyLuuo02 run a e
  | .luuo03 a e => bodyLuuo03 run a e
  | .luuo04 a e => bodyLuuo04 run a e
  | .luuo05 a e => bodyLuuo05 run a e
  | .luuo06 a e => bodyLuuo06 run a e
  | .luuo07 a e => bodyLuuo07 run a e
  | .luuo10 a e => bodyLuuo10 run a e
  | .luuo11 a e => bodyLuuo11 run a e
  | .luuo12 a e => bodyLuuo12 run a e
  | .luuo13 a e => bodyLuuo13 run a e
  | .luuo14 a e => bodyLuuo14 run a e
  | .luuo15 a e => bodyLuuo15 run a e
  | .luuo16 a e => bodyLuuo16 run a e
  | .luuo17 a e => bodyLuuo17 run a e
  | .luuo20 a e => bodyLuuo20 run a e
  | .luuo21 a e => bodyLuuo21 run a e
  | .luuo22 a e => bodyLuuo22 run a e
  | .luuo23 a e => bodyLuuo23 run a e
  | .luuo24 a e => bodyLuuo24 run a e
  | .luuo25 a e => bodyLuuo25 run a e
  | .luuo26 a e => bodyLuuo26 run a e
  | .luuo27 a e => bodyLuuo27 run a e
  | .luuo30 a e => bodyLuuo30 run a e
  | .luuo31 a e => bodyLuuo31 run a e
  | .luuo32 a e => bodyLuuo32 run a e
  | .luuo33 a e => bodyLuuo33 run a e
  | .luuo34 a e => bodyLuuo34 run a e
  | .luuo35 a e => bodyLuuo35 run a e
  | .luuo36 a e => bodyLuuo36 run a e
  | .luuo37 a e => bodyLuuo37 run a e
  | .muuo040 lo a e => bodyMuuo040 lo a e
  | .muuo100 a e => bodyMuuo100 a e
  | .muuo101 a e => bodyMuuo101 a e
  | .muuo102 a e => bodyMuuo102 a e
  | .muuo103 a e => bodyMuuo103 a e
  | .muuo106 a e => bodyMuuo106 a e
  | .muuo107 a e => bodyMuuo107 a e
  | .muuo247 a e => bodyMuuo247 a e
  | .jsys a e => bodyJsys a e
  | .adjsp a e => bodyAdjsp a e
  | .dfad a e => bodyDfad a e
  | .dfsb a e => bodyDfsb a e
  | .dfmp a e => bodyDfmp a e
  | .dfdv a e => bodyDfdv a e
  | .dadd a e => bodyDadd a e
  | .dsub a e => bodyDsub a e
  | .dmul a e => bodyDmul a e
  | .ddiv a e => bodyDdiv a e
  | .dmove a e => bodyDmove a e
  | .dmovn a e => bodyDmovn a e
  | .fix a e => bodyFix a e
  | .extend a e => bodyExtend a e
  | .dmovem a e => bodyDmovem a e
  | .dmovnm a e => bodyDmovnm a e
  | .fixr a e => bodyFixr a e
  | .fltr a e => bodyFltr a e
  | .ufa a e => bodyUfa a e
  | .dfn a e => bodyDfn a e
  | .fsc a e => bodyFsc a e
  | .ibp a e => bodyIbp a e
  | .ildb a e => bodyIldb a e
  | .ldb a e => bodyLdb a e
  | .idpb a e => bodyIdpb a e
  | .dpb a e => bodyDpb a e
  | .fad a e => bodyFad a e
  | .muuo141 a e => bodyMuuo141 a e
  | .fadm a e => bodyFadm a e
  | .fadb a e => bodyFadb a e
  | .fadr a e => bodyFadr a e
  | .fadri a e => bodyFadri a e
  | .fadrm a e => bodyFadrm a e
  | .fadrb a e => bodyFadrb a e
  | .fsb a e => bodyFsb a e
  | .muuo151 a e => bodyMuuo151 a e
  | .fsbm a e => bodyFsbm a e
  | .fsbb a e => bodyFsbb a e
  | .fsbr a e => bodyFsbr a e
  | .fsbri a e => bodyFsbri a e
  | .fsbrm a e => bodyFsbrm a e
  | .fsbrb a e => bodyFsbrb a e
  | .fmp a e => bodyFmp a e
  | .muuo161 a e => bodyMuuo161 a e
  | .fmpm a e => bodyFmpm a e
  | .fmpb a e => bodyFmpb a e
  | .fmpr a e => bodyFmpr a e
  | .fmpri a e => bodyFmpri a e
  | .fmprm a e => bodyFmprm a e
  | .fmprb a e => bodyFmprb a e
  | .fdv a e => bodyFdv a e
  | .muuo171 a e => bodyMuuo171 a e
  | .fdvm a e => bodyFdvm a e
  | .fdvb a e => bodyFdvb a e
  | .fdvr a e => bodyFdvr a e
  | .fdvri a e => bodyFdvri a e
  | .fdvrm a e => bodyFdvrm a e
  | .fdvrb a e => bodyFdvrb a e
  | .move a e => bodyMove a e
  | .movei a e => bodyMovei a e
  | .movem a e => bodyMovem a e
  | .moves a e => bodyMoves a e
  | .movs a e => bodyMovs a e
  | .movsi a e => bodyMovsi a e
  | .movsm a e => bodyMovsm a e
  | .movss a e => bodyMovss a e
  | .movn a e => bodyMovn a e
  | .movni a e => bodyMovni a e
  | .movnm a e => bodyMovnm a e
  | .movns a e => bodyMovns a e
  | .movm a e => bodyMovm a e
  | .movmi a e => bodyMovmi a e
  | .movmm a e => bodyMovmm a e
  | .movms a e => bodyMovms a e
  | .imul a e => bodyImul a e
  | .imuli a e => bodyImuli a e
  | .imulm a e => bodyImulm a e
  | .imulb a e => bodyImulb a e
  | .mul a e => bodyMul a e
  | .muli a e => bodyMuli a e
  | .mulm a e => bodyMulm a e
  | .mulb a e => bodyMulb a e
  | .idiv a e => bodyIdiv a e
  | .idivi a e => bodyIdivi a e
  | .idivm a e => bodyIdivm a e
  | .idivb a e => bodyIdivb a e
  | .div a e => bodyDiv a e
  | .divi a e => bodyDivi a e
  | .divm a e => bodyDivm a e
  | .divb a e => bodyDivb a e
  | .ash a e => bodyAsh a e
  | .rot a e => bodyRot a e
  | .lsh a e => bodyLsh a e
  | .jffo a e => bodyJffo a e
  | .ashc a e => bodyAshc a e
  | .rotc a e => bodyRotc a e
  | .lshc a e => bodyLshc a e
  | .exch a e => bodyExch a e
  | .blt a e => bodyBlt a e
  | .aobjp a e => bodyAobjp a e
  | .aobjn a e => bodyAobjn a e
  | .jrst e => bodyJrst e
  | .portal e => bodyPortal e
  | .jrstf e => bodyJrstf e
  | .muuoJrst03 e => bodyMuuoJrst03 e
  | .halt e => bodyHalt e
  | .xjrstf e => bodyXjrstf e
  | .xjen e => bodyXjen e
  | .xpcw e => bodyXpcw e
  | .jrst10 e => bodyJrst10 e
  | .muuoJrst11 e => bodyMuuoJrst11 e
  | .jen e => bodyJen e
  | .muuoJrst13 e => bodyMuuoJrst13 e
  | .sfm e => bodySfm e
  | .xjrst e => bodyXjrst e
  | .muuoJrst16 e => bodyMuuoJrst16 e
  | .muuoJrst17 e => bodyMuuoJrst17 e
  | .jfcl a e => bodyJfcl a e
  | .xct e => bodyXct run e
  | .pxct n e => bodyPxct run n e
  | .map a e => bodyMap a e
  | .pushj a e => bodyPushj a e
  | .push a e => bodyPush a e
  | .pop a e => bodyPop a e
  | .popj a e => bodyPopj a e
  | .jsr a e => bodyJsr a e
  | .jsp a e => bodyJsp a e
  | .jsa a e => bodyJsa a e
  | .jra a e => bodyJra a e
  | .add a e => bodyAdd a e
  | .addi a e => bodyAddi a e
  | .addm a e => bodyAddm a e
  | .addb a e => bodyAddb a e
  | .sub a e => bodySub a e
  | .subi a e => bodySubi a e
  | .subm a e => bodySubm a e
  | .subb a e => bodySubb a e
  | .cai a e => bodyCai a e
  | .cail a e => bodyCail a e
  | .caie a e => bodyCaie a e
  | .caile a e => bodyCaile a e
  | .caia a e => bodyCaia a e
  | .caige a e => bodyCaige a e
  | .cain a e => bodyCain a e
  | .caig a e => bodyCaig a e
  | .cam a e => bodyCam a e
  | .caml a e => bodyCaml a e
  | .came a e => bodyCame a e
  | .camle a e => bodyCamle a e
  | .cama a e => bodyCama a e
  | .camge a e => bodyCamge a e
  | .camn a e => bodyCamn a e
  | .camg a e => bodyCamg a e
  | .jump a e => bodyJump a e
  | .jumpl a e => bodyJumpl a e
  | .jumpe a e => bodyJumpe a e
  | .jumple a e => bodyJumple a e
  | .jumpa a e => bodyJumpa a e
  | .jumpge a e => bodyJumpge a e
  | .jumpn a e => bodyJumpn a e
  | .jumpg a e => bodyJumpg a e
  | .skip a e => bodySkip a e
  | .skipl a e => bodySkipl a e
  | .skipe a e => bodySkipe a e
  | .skiple a e => bodySkiple a e
  | .skipa a e => bodySkipa a e
  | .skipge a e => bodySkipge a e
  | .skipn a e => bodySkipn a e
  | .skipg a e => bodySkipg a e
  | .aoj a e => bodyAoj a e
  | .aojl a e => bodyAojl a e
  | .aoje a e => bodyAoje a e
  | .aojle a e => bodyAojle a e
  | .aoja a e => bodyAoja a e
  | .aojge a e => bodyAojge a e
  | .aojn a e => bodyAojn a e
  | .aojg a e => bodyAojg a e
  | .aos a e => bodyAos a e
  | .aosl a e => bodyAosl a e
  | .aose a e => bodyAose a e
  | .aosle a e => bodyAosle a e
  | .aosa a e => bodyAosa a e
  | .aosge a e => bodyAosge a e
  | .aosn a e => bodyAosn a e
  | .aosg a e => bodyAosg a e
  | .soj a e => bodySoj a e
  | .sojl a e => bodySojl a e
  | .soje a e => bodySoje a e
  | .sojle a e => bodySojle a e
  | .soja a e => bodySoja a e
  | .sojge a e => bodySojge a e
  | .sojn a e => bodySojn a e
  | .sojg a e => bodySojg a e
  | .sos a e => bodySos a e
  | .sosl a e => bodySosl a e
  | .sose a e => bodySose a e
  | .sosle a e => bodySosle a e
  | .sosa a e => bodySosa a e
  | .sosge a e => bodySosge a e
  | .sosn a e => bodySosn a e
  | .sosg a e => bodySosg a e
  | .setz a e => bodySetz a e
  | .setzi a e => bodySetzi a e
  | .setzm a e => bodySetzm a e
  | .setzb a e => bodySetzb a e
  | .and a e => bodyAnd a e
  | .andi a e => bodyAndi a e
  | .andm a e => bodyAndm a e
  | .andb a e => bodyAndb a e
  | .andca a e => bodyAndca a e
  | .andcai a e => bodyAndcai a e
  | .andcam a e => bodyAndcam a e
  | .andcab a e => bodyAndcab a e
  | .setm a e => bodySetm a e
  | .xmovei a e => bodyXmovei a e
  | .setmm a e => bodySetmm a e
  | .setmb a e => bodySetmb a e
  | .andcm a e => bodyAndcm a e
  | .andcmi a e => bodyAndcmi a e
  | .andcmm a e => bodyAndcmm a e
  | .andcmb a e => bodyAndcmb a e
  | .seta a e => bodySeta a e
  | .setai a e => bodySetai a e
  | .setam a e => bodySetam a e
  | .setab a e => bodySetab a e
  | .xor a e => bodyXor a e
  | .xori a e => bodyXori a e
  | .xorm a e => bodyXorm a e
  | .xorb a e => bodyXorb a e
  | .ior a e => bodyIor a e
  | .iori a e => bodyIori a e
  | .iorm a e => bodyIorm a e
  | .iorb a e => bodyIorb a e
  | .andcb a e => bodyAndcb a e
  | .andcbi a e => bodyAndcbi a e
  | .andcbm a e => bodyAndcbm a e
  | .andcbb a e => bodyAndcbb a e
  | .eqv a e => bodyEqv a e
  | .eqvi a e => bodyEqvi a e
  | .eqvm a e => bodyEqvm a e
  | .eqvb a e => bodyEqvb a e
  | .setca a e => bodySetca a e
  | .setcai a e => bodySetcai a e
  | .setcam a e => bodySetcam a e
  | .setcab a e => bodySetcab a e
  | .orca a e => bodyOrca a e
  | .orcai a e => bodyOrcai a e
  | .orcam a e => bodyOrcam a e
  | .orcab a e => bodyOrcab a e
  | .setcm a e => bodySetcm a e
  | .setcmi a e => bodySetcmi a e
  | .setcmm a e => bodySetcmm a e
  | .setcmb a e => bodySetcmb a e
  | .orcm a e => bodyOrcm a e
  | .orcmi a e => bodyOrcmi a e
  | .orcmm a e => bodyOrcmm a e
  | .orcmb a e => bodyOrcmb a e
  | .orcb a e => bodyOrcb a e
  | .orcbi a e => bodyOrcbi a e
  | .orcbm a e => bodyOrcbm a e
  | .orcbb a e => bodyOrcbb a e
  | .seto a e => bodySeto a e
  | .setoi a e => bodySetoi a e
  | .setom a e => bodySetom a e
  | .setob a e => bodySetob a e
  | .hll a e => bodyHll a e
  | .xhlli a e => bodyXhlli a e
  | .hllm a e => bodyHllm a e
  | .hlls a e => bodyHlls a e
  | .hrl a e => bodyHrl a e
  | .hrli a e => bodyHrli a e
  | .hrlm a e => bodyHrlm a e
  | .hrls a e => bodyHrls a e
  | .hllz a e => bodyHllz a e
  | .hllzi a e => bodyHllzi a e
  | .hllzm a e => bodyHllzm a e
  | .hllzs a e => bodyHllzs a e
  | .hrlz a e => bodyHrlz a e
  | .hrlzi a e => bodyHrlzi a e
  | .hrlzm a e => bodyHrlzm a e
  | .hrlzs a e => bodyHrlzs a e
  | .hllo a e => bodyHllo a e
  | .hlloi a e => bodyHlloi a e
  | .hllom a e => bodyHllom a e
  | .hllos a e => bodyHllos a e
  | .hrlo a e => bodyHrlo a e
  | .hrloi a e => bodyHrloi a e
  | .hrlom a e => bodyHrlom a e
  | .hrlos a e => bodyHrlos a e
  | .hlle a e => bodyHlle a e
  | .hllei a e => bodyHllei a e
  | .hllem a e => bodyHllem a e
  | .hlles a e => bodyHlles a e
  | .hrle a e => bodyHrle a e
  | .hrlei a e => bodyHrlei a e
  | .hrlem a e => bodyHrlem a e
  | .hrles a e => bodyHrles a e
  | .hrr a e => bodyHrr a e
  | .hrri a e => bodyHrri a e
  | .hrrm a e => bodyHrrm a e
  | .hrrs a e => bodyHrrs a e
  | .hlr a e => bodyHlr a e
  | .hlri a e => bodyHlri a e
  | .hlrm a e => bodyHlrm a e
  | .hlrs a e => bodyHlrs a e
  | .hrrz a e => bodyHrrz a e
  | .hrrzi a e => bodyHrrzi a e
  | .hrrzm a e => bodyHrrzm a e
  | .hrrzs a e => bodyHrrzs a e
  | .hlrz a e => bodyHlrz a e
  | .hlrzi a e => bodyHlrzi a e
  | .hlrzm a e => bodyHlrzm a e
  | .hlrzs a e => bodyHlrzs a e
  | .hrro a e => bodyHrro a e
  | .hrroi a e => bodyHrroi a e
  | .hrrom a e => bodyHrrom a e
  | .hrros a e => bodyHrros a e
  | .hlro a e => bodyHlro a e
  | .hlroi a e => bodyHlroi a e
  | .hlrom a e => bodyHlrom a e
  | .hlros a e => bodyHlros a e
  | .hrre a e => bodyHrre a e
  | .hrrei a e => bodyHrrei a e
  | .hrrem a e => bodyHrrem a e
  | .hrres a e => bodyHrres a e
  | .hlre a e => bodyHlre a e
  | .hlrei a e => bodyHlrei a e
  | .hlrem a e => bodyHlrem a e
  | .hlres a e => bodyHlres a e
  | .trn a e => bodyTrn a e
  | .tln a e => bodyTln a e
  | .trne a e => bodyTrne a e
  | .tlne a e => bodyTlne a e
  | .trna a e => bodyTrna a e
  | .tlna a e => bodyTlna a e
  | .trnn a e => bodyTrnn a e
  | .tlnn a e => bodyTlnn a e
  | .tdn a e => bodyTdn a e
  | .tsn a e => bodyTsn a e
  | .tdne a e => bodyTdne a e
  | .tsne a e => bodyTsne a e
  | .tdna a e => bodyTdna a e
  | .tsna a e => bodyTsna a e
  | .tdnn a e => bodyTdnn a e
  | .tsnn a e => bodyTsnn a e
  | .trz a e => bodyTrz a e
  | .tlz a e => bodyTlz a e
  | .trze a e => bodyTrze a e
  | .tlze a e => bodyTlze a e
  | .trza a e => bodyTrza a e
  | .tlza a e => bodyTlza a e
  | .trzn a e => bodyTrzn a e
  | .tlzn a e => bodyTlzn a e
  | .tdz a e => bodyTdz a e
  | .tsz a e => bodyTsz a e
  | .tdze a e => bodyTdze a e
  | .tsze a e => bodyTsze a e
  | .tdza a e => bodyTdza a e
  | .tsza a e => bodyTsza a e
  | .tdzn a e => bodyTdzn a e
  | .tszn a e => bodyTszn a e
  | .trc a e => bodyTrc a e
  | .tlc a e => bodyTlc a e
  | .trce a e => bodyTrce a e
  | .tlce a e => bodyTlce a e
  | .trca a e => bodyTrca a e
  | .tlca a e => bodyTlca a e
  | .trcn a e => bodyTrcn a e
  | .tlcn a e => bodyTlcn a e
  | .tdc a e => bodyTdc a e
  | .tsc a e => bodyTsc a e
  | .tdce a e => bodyTdce a e
  | .tsce a e => bodyTsce a e
  | .tdca a e => bodyTdca a e
  | .tsca a e => bodyTsca a e
  | .tdcn a e => bodyTdcn a e
  | .tscn a e => bodyTscn a e
  | .tro a e => bodyTro a e
  | .tlo a e => bodyTlo a e
  | .troe a e => bodyTroe a e
  | .tloe a e => bodyTloe a e
  | .troa a e => bodyTroa a e
  | .tloa a e => bodyTloa a e
  | .tron a e => bodyTron a e
  | .tlon a e => bodyTlon a e
  | .tdo a e => bodyTdo a e
  | .tso a e => bodyTso a e
  | .tdoe a e => bodyTdoe a e
  | .tsoe a e => bodyTsoe a e
  | .tdoa a e => bodyTdoa a e
  | .tsoa a e => bodyTsoa a e
  | .tdon a e => bodyTdon a e
  | .tson a e => bodyTson a e
  | .io r => bodyIo r
  | .cmpsl a e0 z e => bodyCmpsl a e0 z e
  | .cmpse a e0 z e => bodyCmpse a e0 z e
  | .cmpsle a e0 z e => bodyCmpsle a e0 z e
  | .edit a e0 z e => bodyEdit a e0 z e
  | .cmpsge a e0 z e => bodyCmpsge a e0 z e
  | .cmpsn a e0 z e => bodyCmpsn a e0 z e
  | .cmpsg a e0 z e => bodyCmpsg a e0 z e
  | .cvtdbo a e0 z e => bodyCvtdbo a e0 z e
  | .cvtdbt a e0 z e => bodyCvtdbt a e0 z e
  | .cvtbdo a e0 z e => bodyCvtbdo a e0 z e
  | .cvtbdt a e0 z e => bodyCvtbdt a e0 z e
  | .movso a e0 z e => bodyMovso a e0 z e
  | .movst a e0 z e => bodyMovst a e0 z e
  | .movslj a e0 z e => bodyMovslj a e0 z e
  | .movsrj a e0 z e => bodyMovsrj a e0 z e
  | .xblt a e0 z e => bodyXblt a e0 z e

/-- `exec` runs the body of the instruction, and a trap reports `trapWord`. -/
theorem exec_eq (i : Instr) (s : State) : exec i s = runTop (trapWord i) (bodyOf runWord i) s := by
  cases i <;> rfl

/-- Opcodes 000 to 077. -/
theorem bodyOf_decodeOp0 (run : RunWord) (n : Nat) (a : AcNum) (e : AddrFields) :
    bodyOf run (decodeOp0 n a e) = executeOp0 run n a e := by
  by_cases h : n < 31
  · interval_cases n <;> rfl
  · obtain ⟨k, rfl⟩ := Nat.exists_eq_add_of_le (Nat.le_of_not_lt h)
    rw [Nat.add_comm]
    rfl

/-- Opcodes 100 to 177. -/
theorem bodyOf_decodeOp1 (run : RunWord) (n : Nat) (a : AcNum) (e : AddrFields) :
    bodyOf run (decodeOp1 n a e) = executeOp1 n a e := by
  by_cases h : n < 63
  · interval_cases n <;> rfl
  · obtain ⟨k, rfl⟩ := Nat.exists_eq_add_of_le (Nat.le_of_not_lt h)
    rw [Nat.add_comm]
    rfl

/-- The functions of opcode 254. -/
theorem bodyOf_decodeJrst (run : RunWord) (n : Nat) (e : AddrFields) : bodyOf run (decodeJrst n e) = executeJrst n e := by
  by_cases h : n < 15
  · interval_cases n <;> rfl
  · obtain ⟨k, rfl⟩ := Nat.exists_eq_add_of_le (Nat.le_of_not_lt h)
    rw [Nat.add_comm]
    rfl

/-- XCT and PXCT. -/
theorem bodyOf_decodeXct (run : RunWord) (a : AcNum) (e : AddrFields) :
    bodyOf run (decodeOp2 0o56 a e) = executeOp2 run 0o56 a e := by
  by_cases h : a = 0
  · subst h; rfl
  · have h' : decodeOp2 0o56 a e = .pxct a e := if_neg h
    exact (congrArg (bodyOf run) h').trans (if_neg h).symm

/-- Opcodes 200 to 277. -/
theorem bodyOf_decodeOp2 (run : RunWord) (n : Nat) (a : AcNum) (e : AddrFields) :
    bodyOf run (decodeOp2 n a e) = executeOp2 run n a e := by
  by_cases h : n < 63
  · interval_cases n <;> first | rfl | exact bodyOf_decodeJrst run _ e | exact bodyOf_decodeXct run a e
  · obtain ⟨k, rfl⟩ := Nat.exists_eq_add_of_le (Nat.le_of_not_lt h)
    rw [Nat.add_comm]
    rfl

/-- Opcodes 300 to 377. -/
theorem bodyOf_decodeOp3 (run : RunWord) (n : Nat) (a : AcNum) (e : AddrFields) :
    bodyOf run (decodeOp3 n a e) = executeOp3 n a e := by
  by_cases h : n < 63
  · interval_cases n <;> rfl
  · obtain ⟨k, rfl⟩ := Nat.exists_eq_add_of_le (Nat.le_of_not_lt h)
    rw [Nat.add_comm]
    rfl

/-- Opcodes 400 to 477. -/
theorem bodyOf_decodeOp4 (run : RunWord) (n : Nat) (a : AcNum) (e : AddrFields) :
    bodyOf run (decodeOp4 n a e) = executeOp4 n a e := by
  by_cases h : n < 63
  · interval_cases n <;> rfl
  · obtain ⟨k, rfl⟩ := Nat.exists_eq_add_of_le (Nat.le_of_not_lt h)
    rw [Nat.add_comm]
    rfl

/-- Opcodes 500 to 577. -/
theorem bodyOf_decodeOp5 (run : RunWord) (n : Nat) (a : AcNum) (e : AddrFields) :
    bodyOf run (decodeOp5 n a e) = executeOp5 n a e := by
  by_cases h : n < 63
  · interval_cases n <;> rfl
  · obtain ⟨k, rfl⟩ := Nat.exists_eq_add_of_le (Nat.le_of_not_lt h)
    rw [Nat.add_comm]
    rfl

/-- Opcodes 600 to 677. -/
theorem bodyOf_decodeOp6 (run : RunWord) (n : Nat) (a : AcNum) (e : AddrFields) :
    bodyOf run (decodeOp6 n a e) = executeOp6 n a e := by
  by_cases h : n < 63
  · interval_cases n <;> rfl
  · obtain ⟨k, rfl⟩ := Nat.exists_eq_add_of_le (Nat.le_of_not_lt h)
    rw [Nat.add_comm]
    rfl

/-- A word is executed as the instruction it decodes to. -/
theorem executeWith_eq (run : RunWord) (w : Word) : executeWith run w = bodyOf run (decode w) := by
  have h : (opField w).toNat / 0o100 < 8 := by have := (opField w).isLt; omega
  generalize hd : (opField w).toNat / 0o100 = d at h
  simp only [executeWith, decode, decodeFields, hd]
  interval_cases d
  · by_cases h0 : (opField w).toNat < 0o40
    · simp only [h0, if_true, bodyOf_decodeOp0]
    · simp only [h0, if_false, bodyOf]
  · exact (bodyOf_decodeOp1 ..).symm
  · exact (bodyOf_decodeOp2 ..).symm
  · exact (bodyOf_decodeOp3 ..).symm
  · exact (bodyOf_decodeOp4 ..).symm
  · exact (bodyOf_decodeOp5 ..).symm
  · exact (bodyOf_decodeOp6 ..).symm
  · rfl

/-- What `runWord` does with a word, one link of the chain at a time. -/
theorem runWord_eq (w : Word) : runWord w = bodyOf (execute (chainFuel - 1)) (decode w) := by
  rw [← executeWith_eq]
  rfl

/-- The extended instruction of an EXTEND is the one its opcode word selects (R230). -/
theorem extendedBody_eq (run : RunWord) {a : AcNum} {e0 : EA} {xw : Word} {i : Instr} (h : decodeExt a e0 xw = some i) :
    extendedBody a e0 xw = bodyOf run i := by
  unfold decodeExt at h
  unfold extendedBody
  generalize (opField xw).toNat = k at h
  by_cases hk : k < 17
  · interval_cases k <;> first | (cases h; rfl) | (simp at h)
  · obtain ⟨j, rfl⟩ := Nat.exists_eq_add_of_le (Nat.le_of_not_lt hk)
    rw [Nat.add_comm] at h
    cases h

/-- An instruction that executes no further word has one body. -/
theorem bodyOf_noRun (run run' : RunWord) {i : Instr} (h : i.extendAc ≠ none) : bodyOf run i = bodyOf run' i := by
  cases i <;> first | rfl | (exact absurd rfl h)

end Sys2Proof.Machine
end

