-- ==== Sys2Proof/Laws/Memory.lean ====
section
/-! SUPPORT. Memory: reading after writing, and the canonical form that every write keeps (log 3). -/

namespace Sys2Proof.Machine

@[simp] theorem Memory.read_nil (p : Nat) : Memory.read [] p = 0 := rfl

/-- A canonical list tells its first entry from the rest. -/
theorem Memory.wf_cons {k : Nat} {v : Word} {t : Memory} :
    Memory.wf ((k, v) :: t) = true ↔ v ≠ 0 ∧ (∀ q ∈ t, k < q.1) ∧ Memory.wf t = true := by
  simp [Memory.wf, and_assoc]

/-- What is not listed reads 0. -/
theorem Memory.read_of_lt {p : Nat} : ∀ {t : Memory}, (∀ q ∈ t, p < q.1) → Memory.read t p = 0
  | [], _ => rfl
  | (k, v) :: t, h => by
    have hk : p < k := h (k, v) (by simp)
    have := Memory.read_of_lt (t := t) (fun q hq => h q (by simp [hq]))
    simp [Memory.read, Nat.ne_of_gt hk, this]

/-- A word just written is read back. -/
@[simp] theorem Memory.read_write_same {m : Memory} (hm : Memory.wf m = true) (p : Nat) (v : Word) :
    Memory.read (Memory.write m p v) p = v := by
  induction m with
  | nil => simp only [Memory.write]; split <;> simp_all [Memory.read]
  | cons q t ih =>
    obtain ⟨k, w⟩ := q
    obtain ⟨_, hlt, ht⟩ := Memory.wf_cons.1 hm
    simp only [Memory.write]
    split
    · next h => simp [Memory.read, Nat.ne_of_lt h, ih ht]
    · next h =>
      split
      · next h' =>
        subst h'
        split
        · next hv => rw [Memory.read_of_lt hlt, hv]
        · simp [Memory.read]
      · next h' =>
        have hp : p < k := by omega
        split
        · next hv =>
          have : Memory.read t p = 0 := Memory.read_of_lt fun q hq => Nat.lt_trans hp (hlt q hq)
          simp [Memory.read, h', hv, this]
        · simp [Memory.read]

/-- A write leaves every other word alone. -/
theorem Memory.read_write_other {m : Memory} {p p' : Nat} (h : p' ≠ p) (v : Word) :
    Memory.read (Memory.write m p v) p' = Memory.read m p' := by
  induction m with
  | nil => simp only [Memory.write]; split <;> simp [Memory.read, h.symm]
  | cons q t ih =>
    obtain ⟨k, w⟩ := q
    simp only [Memory.write]
    split
    · simp [Memory.read, ih]
    · split
      · next h' => subst h'; split <;> simp [Memory.read, h.symm]
      · split <;> simp [Memory.read, h.symm]

/-- The entries of a list after a write: the old ones and the one written. -/
theorem Memory.mem_write {m : Memory} {p : Nat} {v : Word} {q : Nat × Word} (h : q ∈ Memory.write m p v) :
    q ∈ m ∨ q = (p, v) := by
  induction m with
  | nil => simp only [Memory.write] at h; split at h <;> simp_all
  | cons r t ih =>
    obtain ⟨k, w⟩ := r
    simp only [Memory.write] at h
    split at h
    · rcases List.mem_cons.1 h with h | h
      · exact .inl (by simp [h])
      · rcases ih h with h | h
        · exact .inl (by simp [h])
        · exact .inr h
    · split at h <;> split at h <;> simp_all <;> tauto

/-- Every write keeps the canonical form. -/
theorem Memory.write_wf {m : Memory} (hm : Memory.wf m = true) (p : Nat) (v : Word) :
    Memory.wf (Memory.write m p v) = true := by
  induction m with
  | nil => simp only [Memory.write]; split <;> simp_all [Memory.wf]
  | cons q t ih =>
    obtain ⟨k, w⟩ := q
    obtain ⟨hw, hlt, ht⟩ := Memory.wf_cons.1 hm
    simp only [Memory.write]
    split
    · next h =>
      refine Memory.wf_cons.2 ⟨hw, fun q hq => ?_, ih ht⟩
      rcases Memory.mem_write hq with hq | hq
      · exact hlt q hq
      · simpa [hq] using h
    · split
      · next h' =>
        subst h'
        split
        · exact ht
        · next hv => exact Memory.wf_cons.2 ⟨hv, hlt, ht⟩
      · split
        · exact hm
        · next h h' hv =>
          refine Memory.wf_cons.2 ⟨hv, fun q hq => ?_, hm⟩
          rcases List.mem_cons.1 hq with hq | hq
          · simp only [hq]; omega
          · have := hlt q hq; omega

end Sys2Proof.Machine
end

