-- ==== Sys2Proof/Laws/State.lean ====
section
/-! SUPPORT. One lemma for each field and each update of the state, so that no proof unfolds a record update. -/

namespace Sys2Proof.Machine

@[simp] theorem State.setAc_cab (s : State) (b : BlockNum) (n : AcNum) (v : Word) : (s.setAc b n v).cab = s.cab := rfl
@[simp] theorem State.setAc_pab (s : State) (b : BlockNum) (n : AcNum) (v : Word) : (s.setAc b n v).pab = s.pab := rfl
@[simp] theorem State.setAc_pcs (s : State) (b : BlockNum) (n : AcNum) (v : Word) : (s.setAc b n v).pcs = s.pcs := rfl
@[simp] theorem State.setAc_pcu (s : State) (b : BlockNum) (n : AcNum) (v : Word) : (s.setAc b n v).pcu = s.pcu := rfl
@[simp] theorem State.setAc_pc (s : State) (b : BlockNum) (n : AcNum) (v : Word) : (s.setAc b n v).pc = s.pc := rfl
@[simp] theorem State.setAc_flags (s : State) (b : BlockNum) (n : AcNum) (v : Word) : (s.setAc b n v).flags = s.flags := rfl
@[simp] theorem State.setAc_mode (s : State) (b : BlockNum) (n : AcNum) (v : Word) : (s.setAc b n v).mode = s.mode := rfl
@[simp] theorem State.setAc_upt (s : State) (b : BlockNum) (n : AcNum) (v : Word) : (s.setAc b n v).upt = s.upt := rfl
@[simp] theorem State.setAc_ept (s : State) (b : BlockNum) (n : AcNum) (v : Word) : (s.setAc b n v).ept = s.ept := rfl
@[simp] theorem State.setAc_mem (s : State) (b : BlockNum) (n : AcNum) (v : Word) : (s.setAc b n v).mem = s.mem := rfl
@[simp] theorem State.setAc_cfg (s : State) (b : BlockNum) (n : AcNum) (v : Word) : (s.setAc b n v).cfg = s.cfg := rfl
@[simp] theorem State.setAc_freeCtr (s : State) (b : BlockNum) (n : AcNum) (v : Word) : (s.setAc b n v).freeCtr = s.freeCtr := rfl

@[simp] theorem State.put_cab (s : State) (l : Loc) (v : Word) : (s.put l v).cab = s.cab := by cases l <;> rfl
@[simp] theorem State.put_pab (s : State) (l : Loc) (v : Word) : (s.put l v).pab = s.pab := by cases l <;> rfl
@[simp] theorem State.put_pcs (s : State) (l : Loc) (v : Word) : (s.put l v).pcs = s.pcs := by cases l <;> rfl
@[simp] theorem State.put_pcu (s : State) (l : Loc) (v : Word) : (s.put l v).pcu = s.pcu := by cases l <;> rfl
@[simp] theorem State.put_pc (s : State) (l : Loc) (v : Word) : (s.put l v).pc = s.pc := by cases l <;> rfl
@[simp] theorem State.put_flags (s : State) (l : Loc) (v : Word) : (s.put l v).flags = s.flags := by cases l <;> rfl
@[simp] theorem State.put_mode (s : State) (l : Loc) (v : Word) : (s.put l v).mode = s.mode := by cases l <;> rfl
@[simp] theorem State.put_upt (s : State) (l : Loc) (v : Word) : (s.put l v).upt = s.upt := by cases l <;> rfl
@[simp] theorem State.put_ept (s : State) (l : Loc) (v : Word) : (s.put l v).ept = s.ept := by cases l <;> rfl
@[simp] theorem State.put_cfg (s : State) (l : Loc) (v : Word) : (s.put l v).cfg = s.cfg := by cases l <;> rfl
@[simp] theorem State.put_freeCtr (s : State) (l : Loc) (v : Word) : (s.put l v).freeCtr = s.freeCtr := by cases l <;> rfl
@[simp] theorem State.put_ac_mem (s : State) (b : BlockNum) (n : AcNum) (v : Word) : (s.put (.ac b n) v).mem = s.mem := rfl
@[simp] theorem State.put_cell_mem (s : State) (p : Nat) (v : Word) :
    (s.put (.cell p) v).mem = Memory.write s.mem p v := rfl
@[simp] theorem State.put_cell_acs (s : State) (p : Nat) (v : Word) : (s.put (.cell p) v).acs = s.acs := rfl

@[simp] theorem State.setContext_acs (s : State) (x : Sec) (u : Bool) (p c : BlockNum) : (s.setContext x u p c).acs = s.acs := rfl
@[simp] theorem State.setContext_cab (s : State) (x : Sec) (u : Bool) (p c : BlockNum) : (s.setContext x u p c).cab = c := rfl
@[simp] theorem State.setContext_pab (s : State) (x : Sec) (u : Bool) (p c : BlockNum) : (s.setContext x u p c).pab = p := rfl
@[simp] theorem State.setContext_pcs (s : State) (x : Sec) (u : Bool) (p c : BlockNum) : (s.setContext x u p c).pcs = s.pcsOf x := rfl
@[simp] theorem State.setContext_pcu (s : State) (x : Sec) (u : Bool) (p c : BlockNum) : (s.setContext x u p c).pcu = u := rfl
@[simp] theorem State.setContext_pc (s : State) (x : Sec) (u : Bool) (p c : BlockNum) : (s.setContext x u p c).pc = s.pc := rfl
@[simp] theorem State.setContext_flags (s : State) (x : Sec) (u : Bool) (p c : BlockNum) : (s.setContext x u p c).flags = s.flags := rfl
@[simp] theorem State.setContext_mode (s : State) (x : Sec) (u : Bool) (p c : BlockNum) : (s.setContext x u p c).mode = s.mode := rfl
@[simp] theorem State.setContext_upt (s : State) (x : Sec) (u : Bool) (p c : BlockNum) : (s.setContext x u p c).upt = s.upt := rfl
@[simp] theorem State.setContext_ept (s : State) (x : Sec) (u : Bool) (p c : BlockNum) : (s.setContext x u p c).ept = s.ept := rfl
@[simp] theorem State.setContext_mem (s : State) (x : Sec) (u : Bool) (p c : BlockNum) : (s.setContext x u p c).mem = s.mem := rfl
@[simp] theorem State.setContext_cfg (s : State) (x : Sec) (u : Bool) (p c : BlockNum) : (s.setContext x u p c).cfg = s.cfg := rfl
@[simp] theorem State.setContext_freeCtr (s : State) (x : Sec) (u : Bool) (p c : BlockNum) : (s.setContext x u p c).freeCtr = s.freeCtr := rfl

@[simp] theorem State.changeContext_acs (s : State) (a : Addr) : (s.changeContext a).acs = s.acs := rfl
@[simp] theorem State.changeContext_cab (s : State) (a : Addr) : (s.changeContext a).cab = s.cfg.traps.newCab.getD s.cab := rfl
@[simp] theorem State.changeContext_pab (s : State) (a : Addr) : (s.changeContext a).pab = s.cab := rfl
@[simp] theorem State.changeContext_pcs (s : State) (a : Addr) : (s.changeContext a).pcs = s.pcsOf (secOf s.pc) := rfl
@[simp] theorem State.changeContext_pcu (s : State) (a : Addr) : (s.changeContext a).pcu = (s.mode == .user) := rfl
@[simp] theorem State.changeContext_pc (s : State) (a : Addr) : (s.changeContext a).pc = a := rfl
@[simp] theorem State.changeContext_flags (s : State) (a : Addr) : (s.changeContext a).flags = trapFlags s.flags ((Config.freeWord s.freeCtr).setWidth 13) := rfl
@[simp] theorem State.changeContext_mode (s : State) (a : Addr) : (s.changeContext a).mode = .exec := rfl
@[simp] theorem State.changeContext_upt (s : State) (a : Addr) : (s.changeContext a).upt = s.upt := rfl
@[simp] theorem State.changeContext_ept (s : State) (a : Addr) : (s.changeContext a).ept = s.ept := rfl
@[simp] theorem State.changeContext_mem (s : State) (a : Addr) : (s.changeContext a).mem = s.mem := rfl
@[simp] theorem State.changeContext_cfg (s : State) (a : Addr) : (s.changeContext a).cfg = s.cfg := rfl
@[simp] theorem State.changeContext_freeCtr (s : State) (a : Addr) : (s.changeContext a).freeCtr = s.freeCtr + 1 := rfl

@[simp] theorem Mach.setX_cab (m : Mach) (n : AcNum) (v : Word) : (m.setX n v).st.cab = m.st.cab := rfl
@[simp] theorem Mach.setX_pab (m : Mach) (n : AcNum) (v : Word) : (m.setX n v).st.pab = m.st.pab := rfl
@[simp] theorem Mach.setX_pcs (m : Mach) (n : AcNum) (v : Word) : (m.setX n v).st.pcs = m.st.pcs := rfl
@[simp] theorem Mach.setX_pcu (m : Mach) (n : AcNum) (v : Word) : (m.setX n v).st.pcu = m.st.pcu := rfl
@[simp] theorem Mach.setX_pc (m : Mach) (n : AcNum) (v : Word) : (m.setX n v).st.pc = m.st.pc := rfl
@[simp] theorem Mach.setX_flags (m : Mach) (n : AcNum) (v : Word) : (m.setX n v).st.flags = m.st.flags := rfl
@[simp] theorem Mach.setX_mode (m : Mach) (n : AcNum) (v : Word) : (m.setX n v).st.mode = m.st.mode := rfl
@[simp] theorem Mach.setX_upt (m : Mach) (n : AcNum) (v : Word) : (m.setX n v).st.upt = m.st.upt := rfl
@[simp] theorem Mach.setX_ept (m : Mach) (n : AcNum) (v : Word) : (m.setX n v).st.ept = m.st.ept := rfl
@[simp] theorem Mach.setX_mem (m : Mach) (n : AcNum) (v : Word) : (m.setX n v).st.mem = m.st.mem := rfl
@[simp] theorem Mach.setX_cfg (m : Mach) (n : AcNum) (v : Word) : (m.setX n v).st.cfg = m.st.cfg := rfl
@[simp] theorem Mach.setX_freeCtr (m : Mach) (n : AcNum) (v : Word) : (m.setX n v).st.freeCtr = m.st.freeCtr := rfl

@[simp] theorem Mach.setPc_acs (m : Mach) (a : Addr) : (m.setPc a).st.acs = m.st.acs := rfl
@[simp] theorem Mach.setPc_cab (m : Mach) (a : Addr) : (m.setPc a).st.cab = m.st.cab := rfl
@[simp] theorem Mach.setPc_pab (m : Mach) (a : Addr) : (m.setPc a).st.pab = m.st.pab := rfl
@[simp] theorem Mach.setPc_pcs (m : Mach) (a : Addr) : (m.setPc a).st.pcs = m.st.pcs := rfl
@[simp] theorem Mach.setPc_pcu (m : Mach) (a : Addr) : (m.setPc a).st.pcu = m.st.pcu := rfl
@[simp] theorem Mach.setPc_pc (m : Mach) (a : Addr) : (m.setPc a).st.pc = a := rfl
@[simp] theorem Mach.setPc_flags (m : Mach) (a : Addr) : (m.setPc a).st.flags = m.st.flags := rfl
@[simp] theorem Mach.setPc_mode (m : Mach) (a : Addr) : (m.setPc a).st.mode = m.st.mode := rfl
@[simp] theorem Mach.setPc_upt (m : Mach) (a : Addr) : (m.setPc a).st.upt = m.st.upt := rfl
@[simp] theorem Mach.setPc_ept (m : Mach) (a : Addr) : (m.setPc a).st.ept = m.st.ept := rfl
@[simp] theorem Mach.setPc_mem (m : Mach) (a : Addr) : (m.setPc a).st.mem = m.st.mem := rfl
@[simp] theorem Mach.setPc_cfg (m : Mach) (a : Addr) : (m.setPc a).st.cfg = m.st.cfg := rfl
@[simp] theorem Mach.setPc_freeCtr (m : Mach) (a : Addr) : (m.setPc a).st.freeCtr = m.st.freeCtr := rfl

@[simp] theorem Mach.advance_acs (m : Mach) (k : Half) : (m.advance k).st.acs = m.st.acs := rfl
@[simp] theorem Mach.advance_cab (m : Mach) (k : Half) : (m.advance k).st.cab = m.st.cab := rfl
@[simp] theorem Mach.advance_pab (m : Mach) (k : Half) : (m.advance k).st.pab = m.st.pab := rfl
@[simp] theorem Mach.advance_pcs (m : Mach) (k : Half) : (m.advance k).st.pcs = m.st.pcs := rfl
@[simp] theorem Mach.advance_pcu (m : Mach) (k : Half) : (m.advance k).st.pcu = m.st.pcu := rfl
@[simp] theorem Mach.advance_pc (m : Mach) (k : Half) : (m.advance k).st.pc = m.st.pcPlus k := rfl
@[simp] theorem Mach.advance_flags (m : Mach) (k : Half) : (m.advance k).st.flags = m.st.flags := rfl
@[simp] theorem Mach.advance_mode (m : Mach) (k : Half) : (m.advance k).st.mode = m.st.mode := rfl
@[simp] theorem Mach.advance_upt (m : Mach) (k : Half) : (m.advance k).st.upt = m.st.upt := rfl
@[simp] theorem Mach.advance_ept (m : Mach) (k : Half) : (m.advance k).st.ept = m.st.ept := rfl
@[simp] theorem Mach.advance_mem (m : Mach) (k : Half) : (m.advance k).st.mem = m.st.mem := rfl
@[simp] theorem Mach.advance_cfg (m : Mach) (k : Half) : (m.advance k).st.cfg = m.st.cfg := rfl
@[simp] theorem Mach.advance_freeCtr (m : Mach) (k : Half) : (m.advance k).st.freeCtr = m.st.freeCtr := rfl

@[simp] theorem Mach.skipIf_acs (m : Mach) (b : Bool) : (m.skipIf b).st.acs = m.st.acs := rfl
@[simp] theorem Mach.skipIf_cab (m : Mach) (b : Bool) : (m.skipIf b).st.cab = m.st.cab := rfl
@[simp] theorem Mach.skipIf_pab (m : Mach) (b : Bool) : (m.skipIf b).st.pab = m.st.pab := rfl
@[simp] theorem Mach.skipIf_pcs (m : Mach) (b : Bool) : (m.skipIf b).st.pcs = m.st.pcs := rfl
@[simp] theorem Mach.skipIf_pcu (m : Mach) (b : Bool) : (m.skipIf b).st.pcu = m.st.pcu := rfl
@[simp] theorem Mach.skipIf_pc (m : Mach) (b : Bool) : (m.skipIf b).st.pc = m.st.pcPlus (if b then 2 else 1) := rfl
@[simp] theorem Mach.skipIf_flags (m : Mach) (b : Bool) : (m.skipIf b).st.flags = m.st.flags := rfl
@[simp] theorem Mach.skipIf_mode (m : Mach) (b : Bool) : (m.skipIf b).st.mode = m.st.mode := rfl
@[simp] theorem Mach.skipIf_upt (m : Mach) (b : Bool) : (m.skipIf b).st.upt = m.st.upt := rfl
@[simp] theorem Mach.skipIf_ept (m : Mach) (b : Bool) : (m.skipIf b).st.ept = m.st.ept := rfl
@[simp] theorem Mach.skipIf_mem (m : Mach) (b : Bool) : (m.skipIf b).st.mem = m.st.mem := rfl
@[simp] theorem Mach.skipIf_cfg (m : Mach) (b : Bool) : (m.skipIf b).st.cfg = m.st.cfg := rfl
@[simp] theorem Mach.skipIf_freeCtr (m : Mach) (b : Bool) : (m.skipIf b).st.freeCtr = m.st.freeCtr := rfl

@[simp] theorem Mach.setFlags_acs (m : Mach) (f : Flags) : (m.setFlags f).st.acs = m.st.acs := rfl
@[simp] theorem Mach.setFlags_cab (m : Mach) (f : Flags) : (m.setFlags f).st.cab = m.st.cab := rfl
@[simp] theorem Mach.setFlags_pab (m : Mach) (f : Flags) : (m.setFlags f).st.pab = m.st.pab := rfl
@[simp] theorem Mach.setFlags_pcs (m : Mach) (f : Flags) : (m.setFlags f).st.pcs = m.st.pcs := rfl
@[simp] theorem Mach.setFlags_pcu (m : Mach) (f : Flags) : (m.setFlags f).st.pcu = m.st.pcu := rfl
@[simp] theorem Mach.setFlags_pc (m : Mach) (f : Flags) : (m.setFlags f).st.pc = m.st.pc := rfl
@[simp] theorem Mach.setFlags_flags (m : Mach) (f : Flags) : (m.setFlags f).st.flags = f := rfl
@[simp] theorem Mach.setFlags_mode (m : Mach) (f : Flags) : (m.setFlags f).st.mode = m.st.mode := rfl
@[simp] theorem Mach.setFlags_upt (m : Mach) (f : Flags) : (m.setFlags f).st.upt = m.st.upt := rfl
@[simp] theorem Mach.setFlags_ept (m : Mach) (f : Flags) : (m.setFlags f).st.ept = m.st.ept := rfl
@[simp] theorem Mach.setFlags_mem (m : Mach) (f : Flags) : (m.setFlags f).st.mem = m.st.mem := rfl
@[simp] theorem Mach.setFlags_cfg (m : Mach) (f : Flags) : (m.setFlags f).st.cfg = m.st.cfg := rfl
@[simp] theorem Mach.setFlags_freeCtr (m : Mach) (f : Flags) : (m.setFlags f).st.freeCtr = m.st.freeCtr := rfl

@[simp] theorem Mach.drawn_acs (m : Mach)  : (m.drawn).st.acs = m.st.acs := rfl
@[simp] theorem Mach.drawn_cab (m : Mach)  : (m.drawn).st.cab = m.st.cab := rfl
@[simp] theorem Mach.drawn_pab (m : Mach)  : (m.drawn).st.pab = m.st.pab := rfl
@[simp] theorem Mach.drawn_pcs (m : Mach)  : (m.drawn).st.pcs = m.st.pcs := rfl
@[simp] theorem Mach.drawn_pcu (m : Mach)  : (m.drawn).st.pcu = m.st.pcu := rfl
@[simp] theorem Mach.drawn_pc (m : Mach)  : (m.drawn).st.pc = m.st.pc := rfl
@[simp] theorem Mach.drawn_flags (m : Mach)  : (m.drawn).st.flags = m.st.flags := rfl
@[simp] theorem Mach.drawn_mode (m : Mach)  : (m.drawn).st.mode = m.st.mode := rfl
@[simp] theorem Mach.drawn_upt (m : Mach)  : (m.drawn).st.upt = m.st.upt := rfl
@[simp] theorem Mach.drawn_ept (m : Mach)  : (m.drawn).st.ept = m.st.ept := rfl
@[simp] theorem Mach.drawn_mem (m : Mach)  : (m.drawn).st.mem = m.st.mem := rfl
@[simp] theorem Mach.drawn_cfg (m : Mach)  : (m.drawn).st.cfg = m.st.cfg := rfl
@[simp] theorem Mach.drawn_freeCtr (m : Mach)  : (m.drawn).st.freeCtr = m.st.freeCtr + 1 := rfl

@[simp] theorem Mach.dataFlags_acs (m : Mach) (op : Nat) (args : List Word) : (m.dataFlags op args).st.acs = m.st.acs := rfl
@[simp] theorem Mach.dataFlags_cab (m : Mach) (op : Nat) (args : List Word) : (m.dataFlags op args).st.cab = m.st.cab := rfl
@[simp] theorem Mach.dataFlags_pab (m : Mach) (op : Nat) (args : List Word) : (m.dataFlags op args).st.pab = m.st.pab := rfl
@[simp] theorem Mach.dataFlags_pcs (m : Mach) (op : Nat) (args : List Word) : (m.dataFlags op args).st.pcs = m.st.pcs := rfl
@[simp] theorem Mach.dataFlags_pcu (m : Mach) (op : Nat) (args : List Word) : (m.dataFlags op args).st.pcu = m.st.pcu := rfl
@[simp] theorem Mach.dataFlags_pc (m : Mach) (op : Nat) (args : List Word) : (m.dataFlags op args).st.pc = m.st.pc := rfl
@[simp] theorem Mach.dataFlags_flags (m : Mach) (op : Nat) (args : List Word) : (m.dataFlags op args).st.flags = mergeFlags m.st.flags (Config.dataFlags op args) := rfl
@[simp] theorem Mach.dataFlags_mode (m : Mach) (op : Nat) (args : List Word) : (m.dataFlags op args).st.mode = m.st.mode := rfl
@[simp] theorem Mach.dataFlags_upt (m : Mach) (op : Nat) (args : List Word) : (m.dataFlags op args).st.upt = m.st.upt := rfl
@[simp] theorem Mach.dataFlags_ept (m : Mach) (op : Nat) (args : List Word) : (m.dataFlags op args).st.ept = m.st.ept := rfl
@[simp] theorem Mach.dataFlags_mem (m : Mach) (op : Nat) (args : List Word) : (m.dataFlags op args).st.mem = m.st.mem := rfl
@[simp] theorem Mach.dataFlags_cfg (m : Mach) (op : Nat) (args : List Word) : (m.dataFlags op args).st.cfg = m.st.cfg := rfl
@[simp] theorem Mach.dataFlags_freeCtr (m : Mach) (op : Nat) (args : List Word) : (m.dataFlags op args).st.freeCtr = m.st.freeCtr := rfl

@[simp] theorem Mach.restore_acs (m : Mach) (f : Flags) (a : Addr) : (m.restore f a).st.acs = m.st.acs := rfl
@[simp] theorem Mach.restore_cab (m : Mach) (f : Flags) (a : Addr) : (m.restore f a).st.cab = m.st.cab := rfl
@[simp] theorem Mach.restore_pab (m : Mach) (f : Flags) (a : Addr) : (m.restore f a).st.pab = m.st.pab := rfl
@[simp] theorem Mach.restore_pcs (m : Mach) (f : Flags) (a : Addr) : (m.restore f a).st.pcs = m.st.pcs := rfl
@[simp] theorem Mach.restore_pcu (m : Mach) (f : Flags) (a : Addr) : (m.restore f a).st.pcu = m.st.pcu := rfl
@[simp] theorem Mach.restore_pc (m : Mach) (f : Flags) (a : Addr) : (m.restore f a).st.pc = a := rfl
@[simp] theorem Mach.restore_flags (m : Mach) (f : Flags) (a : Addr) : (m.restore f a).st.flags = restoredFlags m.st.flags f := rfl
@[simp] theorem Mach.restore_mode (m : Mach) (f : Flags) (a : Addr) : (m.restore f a).st.mode = modeOf (restoredFlags m.st.flags f) := rfl
@[simp] theorem Mach.restore_upt (m : Mach) (f : Flags) (a : Addr) : (m.restore f a).st.upt = m.st.upt := rfl
@[simp] theorem Mach.restore_ept (m : Mach) (f : Flags) (a : Addr) : (m.restore f a).st.ept = m.st.ept := rfl
@[simp] theorem Mach.restore_mem (m : Mach) (f : Flags) (a : Addr) : (m.restore f a).st.mem = m.st.mem := rfl
@[simp] theorem Mach.restore_cfg (m : Mach) (f : Flags) (a : Addr) : (m.restore f a).st.cfg = m.st.cfg := rfl
@[simp] theorem Mach.restore_freeCtr (m : Mach) (f : Flags) (a : Addr) : (m.restore f a).st.freeCtr = m.st.freeCtr := rfl

@[simp] theorem Mach.setX_st (m : Mach) (n : AcNum) (v : Word) : (m.setX n v).st = m.st.setAc m.st.cab n v := rfl
@[simp] theorem Mach.put_st (m : Mach) (l : Loc) (v : Word) : (m.put l v).st = m.st.put l v := rfl
@[simp] theorem Mach.start_st (s : State) (iw : Option Word) : (Mach.start s iw).st = s := rfl

end Sys2Proof.Machine
end

