-- ==== Sys2Proof/Laws/Refs.lean ====
section
/-! SUPPORT. Places: what a read gives after a write, and what a reference denotes. -/

namespace Sys2Proof.Machine

/-- Different accumulators stand at different indices. -/
theorem acIndex_inj {b b' : BlockNum} {n n' : AcNum} (h : (acIndex b n).val = (acIndex b' n').val) : b = b' ∧ n = n' := by
  have h' : b ++ n = b' ++ n' := BitVec.eq_of_toNat_eq h
  have h1 := congrArg (BitVec.extractLsb' 4 3) h'
  have h2 := congrArg (BitVec.extractLsb' 0 4) h'
  rw [BitVec.extractLsb'_append_eq_left, BitVec.extractLsb'_append_eq_left] at h1
  rw [BitVec.extractLsb'_append_eq_right, BitVec.extractLsb'_append_eq_right] at h2
  exact ⟨h1, h2⟩

/-- An AC just written is read back. -/
@[simp] theorem State.ac_setAc_same (s : State) (b : BlockNum) (n : AcNum) (v : Word) : (s.setAc b n v).ac b n = v := by
  simp [State.ac, State.setAc]

/-- Writing an AC leaves the others alone. -/
theorem State.ac_setAc_other (s : State) {b b' : BlockNum} {n n' : AcNum} (h : b' ≠ b ∨ n' ≠ n) (v : Word) :
    (s.setAc b n v).ac b' n' = s.ac b' n' := by
  have hne : (acIndex b n).val ≠ (acIndex b' n').val := fun e => by
    obtain ⟨rfl, rfl⟩ := acIndex_inj e
    simp at h
  simp only [State.ac, State.setAc]
  exact Vector.getElem_set_ne _ _ hne

/-- Writing a physical word leaves the ACs alone. -/
@[simp] theorem State.ac_put_cell (s : State) (p : Nat) (v : Word) (b : BlockNum) (n : AcNum) :
    (s.put (.cell p) v).ac b n = s.ac b n := rfl

/-- The current-block AC just written is read back. -/
@[simp] theorem State.x_setAc_same (s : State) (n : AcNum) (v : Word) : (s.setAc s.cab n v).x n = v := by
  simp [State.x]

/-- A place just written is read back. -/
theorem State.get_put_same {s : State} (hs : Memory.wf s.mem = true) (l : Loc) (v : Word) : (s.put l v).get l = v := by
  cases l with
  | ac b n => exact State.ac_setAc_same s b n v
  | cell p => exact Memory.read_write_same hs p v

/-- Writing a place leaves every other place alone. -/
theorem State.get_put_other (s : State) {l l' : Loc} (h : l' ≠ l) (v : Word) : (s.put l v).get l' = s.get l' := by
  cases l with
  | ac b n =>
    cases l' with
    | ac b' n' =>
      refine State.ac_setAc_other s ?_ v
      by_contra hc
      simp only [not_or, not_not] at hc
      exact h (by rw [hc.1, hc.2])
    | cell p => rfl
  | cell p =>
    cases l' with
    | ac b' n' => rfl
    | cell p' => exact Memory.read_write_other (fun e => h (by rw [e])) v

/-- Writing a place keeps memory canonical. -/
theorem State.put_wf {s : State} (hs : Memory.wf s.mem = true) (l : Loc) (v : Word) : Memory.wf (s.put l v).mem = true := by
  cases l with
  | ac b n => exact hs
  | cell p => exact Memory.write_wf hs p v

/-- What a reference denotes depends on the AC blocks, the spaces and the parameters only. -/
theorem State.locate_congr {s t : State} (hc : t.cab = s.cab) (hp : t.pab = s.pab) (hm : t.mode = s.mode)
    (hu : t.pcu = s.pcu) (hg : t.cfg = s.cfg) (e : EA) (c : Ctx) (acc : Access) : t.locate e c acc = s.locate e c acc := by
  unfold State.locate State.block State.space
  simp only [hc, hp, hm, hu, hg]

@[simp] theorem State.locate_put (s : State) (l : Loc) (v : Word) (e : EA) (c : Ctx) (acc : Access) :
    (s.put l v).locate e c acc = s.locate e c acc := by
  apply State.locate_congr <;> simp

@[simp] theorem State.locate_setAc (s : State) (b : BlockNum) (n : AcNum) (v : Word) (e : EA) (c : Ctx) (acc : Access) :
    (s.setAc b n v).locate e c acc = s.locate e c acc := by
  apply State.locate_congr <;> simp

/-- A reference to an AC is always admitted (R66). -/
theorem State.locate_ac (s : State) {e : EA} (h : isAcRef e = true) (c : Ctx) (acc : Access) :
    s.locate e c acc = .ok (.ac (s.block c) (acNumOf e)) := by
  simp [State.locate, h]

/-- A local address is an AC exactly when its in-section part is at most 17 (R66). -/
@[simp] theorem isAcRef_loc (a : Addr) : isAcRef ⟨a, .loc⟩ = decide (offOf a ≤ 0o17) := by simp [isAcRef]

/-- A global address is an AC exactly when its in-section part is at most 17 and its section is 1 (R67, R83). -/
@[simp] theorem isAcRef_glob (a : Addr) : isAcRef ⟨a, .glob⟩ = (decide (offOf a ≤ 0o17) && secOf a == 1) := by
  rfl

/-- The place a reference denotes: an AC of its context's block, or a physical word (R76). -/
theorem State.locate_ok {s : State} {e : EA} {c : Ctx} {acc : Access} {l : Loc} (h : s.locate e c acc = .ok l) :
    (isAcRef e = true ∧ l = .ac (s.block c) (acNumOf e)) ∨
      (isAcRef e = false ∧ (secOf e.addr).toNat < s.cfg.nsect ∧
        ∃ p, mapLookup (s.space c) e.addr.toNat acc s.cfg.map = some p ∧ l = .cell p) := by
  unfold State.locate at h
  split at h
  · next hi => exact .inl ⟨hi, by simpa using h.symm⟩
  · next hi =>
    split at h
    · simp at h
    · next hn =>
      split at h
      · next p hp => exact .inr ⟨by simpa using hi, by omega, p, hp, by simpa using h.symm⟩
      · simp at h

end Sys2Proof.Machine
end

