-- ==== Sys2Proof/Laws/Params.lean ====
section
/-! SUPPORT. The parameters of spec/00_scope.md R8 at their defaults, and what the entry of a trap can do under any TRAP_LAYOUT. -/

namespace Sys2Proof.Machine

/-! ## OPCODES -/

@[simp] theorem standardCode_nil {n : Nat} (c : BitVec n) : standardCode [] c = c := rfl

@[simp] theorem implementedCode_nil {n : Nat} (c : BitVec n) : implementedCode [] c = c := rfl

/-- A word is its opcode, its AC field and the rest. -/
theorem word_fields (w : Word) : (opField w ++ acField w ++ w.extractLsb' 0 23 : Word) = w := by
  refine BitVec.eq_of_getLsbD_eq fun i hi => ?_
  simp only [opField, acField, BitVec.getLsbD_append, BitVec.getLsbD_extractLsb']
  by_cases h1 : i < 23
  · simp [h1]
  · by_cases h2 : i - 23 < 4
    · simp [h1, h2]
      congr 1
      omega
    · simp [h1, h2, show i - 23 - 4 < 9 by omega]
      congr 1
      omega

/-- With no code renumbered a word stands for itself. -/
theorem standardWord_default {o : Opcodes} (h1 : o.ops = []) (h2 : o.jrst = []) (w : Word) : standardWord o w = w := by
  simp only [standardWord, h1, h2, standardCode_nil, ite_self]
  exact word_fields w

/-- With no code renumbered an instruction is stored under the table's codes. -/
theorem implemented_default {o : Opcodes} (h1 : o.ops = []) (h2 : o.jrst = []) (op : BitVec 9) (a : AcNum) :
    implemented o op a = (op, a) := by simp [implemented, h1, h2]

/-! ## FLAGS_LAYOUT -/

/-- The default layout: the flags in bits 0-12, zeros in bits 13-17 (10_state.md R28, 30_encoding.md R115). -/
theorem flagsPC_standard (f : Flags) (n : Half) : flagsPC .standard f n = f ++ (0 : BitVec 5) ++ n := by
  have h : placeFlags f 0 FlagsLayout.standard.bits = f ++ (0 : BitVec 5) := by
    refine BitVec.eq_of_getLsbD_eq fun i hi => ?_
    simp only [placeFlags, FlagsLayout.standard, BitVec.getLsbD_or, BitVec.getLsbD_append, flagAt]
    interval_cases i <;> simp [BitVec.getMsbD_eq_getLsbD]
  rw [flagsPC, h]

/-- The default layout: the flags of a word are its bits 0-12 (10_state.md R28). -/
theorem flagsField_standard (w : Word) : flagsField .standard w = w.extractLsb' 23 13 := by
  refine BitVec.eq_of_getLsbD_eq fun i hi => ?_
  simp only [flagsField, gatherFlags, FlagsLayout.standard, BitVec.getLsbD_or]
  interval_cases i <;> simp [BitVec.getMsbD_eq_getLsbD, lh]

/-! ## TRAP_LAYOUT -/

/-- Storing a word changes the ACs or memory alone. -/
theorem State.put_eq (s : State) (l : Loc) (v : Word) :
    s.put l v = { s with acs := (s.put l v).acs, mem := (s.put l v).mem } := by cases l <;> rfl

/-- Storing in a block changes the ACs and memory alone, and keeps memory canonical. -/
theorem State.storeInBlock_frame (sp : Option Space) (base : Word) (ws : List (Nat × Word)) :
    ∀ s t : State, s.storeInBlock sp base ws = some t →
      t = { s with acs := t.acs, mem := t.mem } ∧ (Memory.wf s.mem = true → Memory.wf t.mem = true) := by
  induction ws with
  | nil =>
    intro s t h
    obtain rfl := Option.some.inj h
    exact ⟨rfl, id⟩
  | cons w ws ih =>
    intro s t h
    unfold State.storeInBlock at h
    split at h
    · cases h
    · next l _ =>
      obtain ⟨same, wf⟩ := ih _ _ h
      exact ⟨by rw [State.put_eq s l w.2] at same; exact same, fun hw => wf (State.put_wf hw _ _)⟩

/-- An entry is the context change after the stores (60_exceptions.md R485, R490). -/
theorem State.enter_next {s t : State} {en : TrapEntry} {tbl : Table} {d : TrapData} (h : s.enter en tbl d = some t) :
    ∃ (s' : State) (a : Addr),
      s.storeInBlock (s.blockBase en.base tbl).1 (s.blockBase en.base tbl).2 (s.trapWords d en.words) = some s' ∧
      t = s'.changeContext a := by
  unfold State.enter at h
  dsimp only at h
  split at h
  · cases h
  · next s' hs =>
    obtain ⟨l, -, rfl⟩ := Option.map_eq_some_iff.1 h
    exact ⟨s', _, hs, rfl⟩

/-- An event with its entry. -/
theorem enterBy_next {s t : State} {en : Option TrapEntry} {tbl : Table} {d : TrapData} {ev : TrapEvent}
    (h : enterBy s en tbl d ev = .next t) : ∃ en', en = some en' ∧ s.enter en' tbl d = some t := by
  unfold enterBy at h
  split at h
  · next hs =>
    obtain ⟨en', he, hn⟩ := Option.bind_eq_some_iff.1 hs
    obtain rfl : _ = t := by simpa using h
    exact ⟨en', he, hn⟩
  · cases h

/-- What taking an event can do (60_exceptions.md R480): the entry that TRAP_LAYOUT gives, out of the state whose written places have
been made free. -/
theorem takeTrap_next {tr : Trap} {m : Mach} {t : State} (h : takeTrap tr m = .next t) :
    ∃ en tbl d, hasEntry (m.st.scramble m.log).cfg en ∧ (m.st.scramble m.log).enter en tbl d = some t := by
  cases tr with
  | pageFail pf =>
    obtain ⟨en, he, hn⟩ := enterBy_next h
    exact ⟨en, _, _, .inr he, hn⟩
  | muuo op a e =>
    obtain ⟨en, he, hn⟩ := enterBy_next h
    exact ⟨en, _, _, .inl he, hn⟩

/-! ## The sketches -/

/-- The flags, opcode and AC field of the sketches, put together (45_uuo.md R343, 60_exceptions.md R488). -/
theorem State.assemble_flagsAndOpcode (s : State) (d : TrapData) :
    s.assemble d [⟨.flags, 17⟩, ⟨.opcode, 26⟩, ⟨.acField, 30⟩] =
      flagsPC s.cfg.flagsLayout s.flags (d.op.1 ++ d.op.2 ++ (0 : BitVec 5)) := by
  refine BitVec.eq_of_getLsbD_eq fun i hi => ?_
  simp only [State.assemble, List.foldr, State.trapValue, flagsPC]
  generalize placeFlags s.flags 0 s.cfg.flagsLayout.bits = f
  generalize d.op.1 = o, d.op.2 = a
  simp only [BitVec.getLsbD_append, BitVec.getLsbD_or, BitVec.getLsbD_shiftLeft, BitVec.getLsbD_setWidth]
  interval_cases i <;> simp

/-- A value of 30 bits that ends in bit 35 is an address word. -/
theorem State.assemble_last (s : State) (d : TrapData) (v : TrapValue) : s.assemble d [⟨v, 35⟩] = s.trapValue d v := by
  simp [State.assemble]

/-- The page-fail word of the sketch, put together (60_exceptions.md R486). -/
theorem State.assemble_pageFailWord (s : State) (d : TrapData) :
    s.assemble d [⟨.user, 0⟩, ⟨.code, 5⟩, ⟨.address, 35⟩] = BitVec.ofBool d.user ++ Config.pageFailCode s.freeCtr ++ convE d.ea := by
  refine BitVec.eq_of_getLsbD_eq fun i hi => ?_
  simp only [State.assemble, List.foldr, State.trapValue]
  generalize Config.pageFailCode s.freeCtr = c, convE d.ea = e
  simp only [BitVec.getLsbD_append, BitVec.getLsbD_or, BitVec.getLsbD_shiftLeft, BitVec.getLsbD_setWidth]
  interval_cases i <;> simp

/-- The flags word of the sketch, put together (60_exceptions.md R486). -/
theorem State.assemble_flagsWord (s : State) (d : TrapData) :
    s.assemble d [⟨.flags, 17⟩] = flagsPC s.cfg.flagsLayout s.flags 0 := by
  refine BitVec.eq_of_getLsbD_eq fun i hi => ?_
  simp only [State.assemble, List.foldr, State.trapValue, flagsPC]
  generalize placeFlags s.flags 0 s.cfg.flagsLayout.bits = f
  simp only [BitVec.getLsbD_append, BitVec.getLsbD_or, BitVec.getLsbD_shiftLeft, BitVec.getLsbD_setWidth]
  interval_cases i <;> simp

/-- The sketch of an LUUO in section zero is the instruction word with off(E) (45_uuo.md R342). -/
theorem State.assemble_luuo40 (s : State) (op : BitVec 9) (a : AcNum) (d : TrapData) (h : d.op = implemented s.cfg.opcodes op a) :
    s.assemble d luuo40Sketch = s.implementedWord op a ⟨false, 0, offOf d.ea.addr⟩ := by
  refine BitVec.eq_of_getLsbD_eq fun i hi => ?_
  simp only [State.assemble, luuo40Sketch, List.foldr, State.trapValue, State.implementedWord, instrWord, packWord, h]
  generalize implemented s.cfg.opcodes op a = c, offOf d.ea.addr = y
  simp only [BitVec.getLsbD_append, BitVec.getLsbD_or, BitVec.getLsbD_shiftLeft, BitVec.getLsbD_setWidth]
  interval_cases i <;> simp

/-- The entry of an MUUO by its sketch (60_exceptions.md R488). -/
theorem State.enter_muuoSketch (s : State) (tbl : Table) (op : BitVec 9) (a : AcNum) (e : EA) :
    s.enter .muuoSketch tbl (s.muuoData op a e) = some (s.enterMuuo op a e) := by
  unfold State.enter State.enterMuuo
  simp only [TrapEntry.muuoSketch, State.blockBase, Option.getD_some, State.tableBase, State.trapWords, List.map,
    State.storeInBlock, State.blockPlace, Option.map_some, State.assemble_flagsAndOpcode, State.assemble_last, State.setCell,
    State.uptCell, State.trapValue]
  congr 3
  unfold State.newPcNumber
  split <;> split <;> rfl

/-- The entry of a page fail by its sketch (60_exceptions.md R486). -/
theorem State.enter_pageFailSketch (s : State) (tbl : Table) (iw : Option Word) (pf : PageFail) :
    s.enter .pageFailSketch tbl (s.pageFailData iw pf) = some (s.enterPageFail pf) := by
  unfold State.enter State.enterPageFail
  simp only [TrapEntry.pageFailSketch, State.blockBase, Option.getD_some, State.tableBase, State.trapWords, List.map,
    State.storeInBlock, State.blockPlace, Option.map_some, State.assemble_pageFailWord, State.assemble_flagsWord,
    State.assemble_last, State.setCell, State.uptCell, State.trapValue]
  congr 3
  unfold State.newPcNumber
  split <;> split <;> rfl

end Sys2Proof.Machine
end

