-- ==== Sys2Proof/Laws/Complete.lean ====
section
/-! SUPPORT. When an instruction completes and what it leaves: one lemma for each shared operation, from its inputs to the next state. -/

namespace Sys2Proof.Machine

/-! ## Running -/

@[simp] theorem Run.ok_bind {α β : Type} (x : α) (k : α → Run β) : ((Except.ok x : Run α) >>= k) = k x := rfl

@[simp] theorem Run.pure_bind {α β : Type} (x : α) (k : α → Run β) : ((pure x : Run α) >>= k) = k x := rfl

@[simp] theorem Run.error_bind {α β : Type} (x : Halt) (k : α → Run β) : ((Except.error x : Run α) >>= k) = .error x := rfl

@[simp] theorem Run.pure_eq {α : Type} (x : α) : (pure x : Run α) = .ok x := rfl

/-- A body that ends well gives the next state. -/
theorem runTop_ok {iw : Word} {b : Body} {s : State} {m : Mach} (h : b s.top (.start s (some iw)) = .ok m) :
    runTop iw b s = .next m.st := by simp [runTop, h]

/-- A body that ends in an event takes it. -/
theorem runTop_trap {iw : Word} {b : Body} {s : State} {m : Mach} {t : Trap}
    (h : b s.top (.start s (some iw)) = .error (.trap t m)) : runTop iw b s = takeTrap t m := by simp [runTop, h]

/-- A body that ends in a refusal refuses. -/
theorem runTop_refused {iw : Word} {b : Body} {s : State} {r : Refusal}
    (h : b s.top (.start s (some iw)) = .error (.refused r)) : runTop iw b s = .refused r := by simp [runTop, h]

@[simp] theorem State.top_px (s : State) : s.top.px = none := rfl
@[simp] theorem State.top_sec (s : State) : s.top.sec = s.pcSec := rfl
@[simp] theorem State.top_bits (s : State) : s.top.bits = ⟨false, false, false, false⟩ := rfl
@[simp] theorem State.top_dataCtx (s : State) : s.top.dataCtx = .cur := rfl
@[simp] theorem State.top_byteCtx (s : State) : s.top.byteCtx = .cur := rfl
@[simp] theorem Mach.start_iw (s : State) (iw : Option Word) : (Mach.start s iw).iw = iw := rfl
@[simp] theorem Mach.start_log (s : State) (iw : Option Word) : (Mach.start s iw).log = [] := rfl
@[simp] theorem Frame.guard_none (f : Frame) (k : PxClass) (h : f.px = none) : f.guard k = .ok () := by simp [Frame.guard, h]
@[simp] theorem ctxOf_false : ctxOf false = .cur := rfl
@[simp] theorem ctxOf_true : ctxOf true = .prev := rfl

/-- The bits of a class are clear without a PXCT. -/
@[simp] theorem PxClass.bits_clear (k : PxClass) : k.bits ⟨false, false, false, false⟩ = (false, false) := by cases k <;> rfl

/-- Without control bits the PXCT form of the EA-calc is the EA-calc (48_xct_pxct.md R447). -/
@[simp] theorem State.pxEaCalc_clear (st : State) (aw : AddrWord) (s : Sec) :
    st.pxEaCalc aw s false false = st.eaCalc aw s .cur := by
  unfold State.pxEaCalc pxSec pxPost
  simp only [ctxOf_false, Bool.false_eq_true, and_false, if_false]
  cases st.eaCalc aw s .cur <;> rfl

/-- E of the instruction at PC. -/
theorem instrEa_top (k : PxClass) (e : AddrFields) (s : State) (m : Mach) :
    instrEa k e s.top m = m.ea (m.st.eaCalc (.ifiw e) s.pcSec .cur) := by
  simp [instrEa, Frame.guard_none s.top k rfl]

/-- E of the instruction at PC, where the calculation yields an address. -/
theorem instrEa_ok {s : State} {e : AddrFields} {ea : EA} (h : s.eaOf e = .ok ea) (k : PxClass) (iw : Option Word) :
    instrEa k e s.top (.start s iw) = .ok ea := by
  have h' : s.eaCalc (.ifiw e) s.pcSec .cur = .ok ea := h
  rw [instrEa_top, Mach.start_st, h']
  rfl

/-- The page fail of the EA-calc of the instruction at PC. -/
theorem instrEa_pageFail {s : State} {e : AddrFields} {pf : PageFail} (h : s.eaOf e = .error (.pageFail pf)) (k : PxClass)
    (iw : Option Word) : instrEa k e s.top (.start s iw) = .error (.trap (.pageFail pf) (.start s iw)) := by
  have h' : s.eaCalc (.ifiw e) s.pcSec .cur = .error (.pageFail pf) := h
  rw [instrEa_top, Mach.start_st, h']
  rfl

theorem Mach.locate_ok {m : Mach} {e : EA} {c : Ctx} {acc : Access} {l : Loc} (h : m.st.locate e c acc = .ok l) :
    m.locate e c acc = .ok l := by simp [Mach.locate, h]

theorem Mach.read_ok {m : Mach} {e : EA} {c : Ctx} {l : Loc} (h : m.st.locate e c .read = .ok l) :
    m.read e c = .ok (m.st.get l) := by simp [Mach.read, Mach.locate_ok h]

/-- A read that fails is a page fail. -/
theorem Mach.read_error {m : Mach} {e : EA} {c : Ctx} {pf : PageFail} (h : m.st.locate e c .read = .error pf) :
    m.read e c = .error (.trap (.pageFail pf) m) := by simp [Mach.read, Mach.locate, h]

theorem Mach.update_ok {m : Mach} {e : EA} {c : Ctx} {l : Loc} (h : m.st.locate e c .write = .ok l) (g : Word → Word) :
    m.update e c g = .ok (m.put l (g (m.st.get l))) := by simp [Mach.update, Mach.locate_ok h]

theorem Mach.write_ok {m : Mach} {e : EA} {c : Ctx} {l : Loc} (h : m.st.locate e c .write = .ok l) (v : Word) :
    m.write e c v = .ok (m.put l v) := by simp [Mach.write, Mach.locate_ok h]

/-- `memRead` and the read of an instruction in progress agree. -/
theorem Mach.read_memRead {m : Mach} {e : EA} {c : Ctx} {v : Word} (h : m.st.memRead e c = .ok v) : m.read e c = .ok v := by
  unfold State.memRead at h
  cases hl : m.st.locate e c .read with
  | error pf => simp [hl] at h
  | ok l =>
    rw [Mach.read_ok hl]
    simpa [hl] using h

/-- An event of an instruction that has written nothing. -/
theorem takeTrap_pageFail {s : State} {iw : Option Word} {pf : PageFail} (h : s.cfg.traps.pageFail = some .pageFailSketch) :
    takeTrap (.pageFail pf) (.start s iw) = .next (s.enterPageFail pf) := by
  simp [takeTrap, enterBy, State.scramble, h, State.enter_pageFailSketch]

theorem takeTrap_muuo {s : State} {iw : Option Word} {op : BitVec 9} {a : AcNum} {e : EA} (h : s.cfg.traps.muuo = some .muuoSketch) :
    takeTrap (.muuo op a e) (.start s iw) = .next (s.enterMuuo op a e) := by
  simp [takeTrap, enterBy, State.scramble, h, State.enter_muuoSketch]

/-- A case that does not arise is not refused. -/
@[simp] theorem Mach.ruling_false (m : Mach) (r : Refusal) : m.ruling false r = .ok () := by simp [Mach.ruling]

/-- Where the parameter lets the cases run, none is refused. -/
theorem Mach.ruling_run {m : Mach} (h : m.st.cfg.rulings = .run) (here : Bool) (r : Refusal) : m.ruling here r = .ok () := by
  simp [Mach.ruling, h]

/-- Where the parameter refuses them, a case that arises is refused. -/
theorem Mach.ruling_refuse {m : Mach} (h : m.st.cfg.rulings = .refuse) (r : Refusal) : m.ruling true r = refuse r := by
  simp [Mach.ruling, h]

/-- A step by Inc that is not refused (20_memory.md R70). -/
theorem Mach.ruling_mayInc {m : Mach} {e : EA} (h : m.st.mayInc e) : m.ruling (atTop e) .addressTop = .ok () := by
  rcases h with h | h
  · exact Mach.ruling_run h _ _
  · rw [h]
    exact Mach.ruling_false m _

/-- A step by Inc that is. -/
theorem Mach.ruling_topRefused {m : Mach} {e : EA} (h : m.st.topRefused e) :
    m.ruling (atTop e) .addressTop = refuse .addressTop := by
  rw [h.2]
  exact Mach.ruling_refuse h.1 _

theorem Mach.incRef_ok {m : Mach} {e : EA} (h : m.st.mayInc e) : m.incRef e = .ok (inc e) := by
  simp [Mach.incRef, Mach.ruling_mayInc h]

theorem Mach.incRef_refused {m : Mach} {e : EA} (h : m.st.topRefused e) : m.incRef e = refuse .addressTop := by
  rw [Mach.incRef, Mach.ruling_topRefused h]
  rfl

/-- The step after the last word is not made. -/
theorem ruling_last (m : Mach) (e : EA) (r : Refusal) : m.ruling (0 != 0 && atTop e) r = .ok () := Mach.ruling_false m r

/-- The step to a further word is. -/
theorem ruling_more (m : Mach) (n : Nat) (e : EA) (r : Refusal) : m.ruling (n + 1 != 0 && atTop e) r = m.ruling (atTop e) r := by
  simp

/-- Storing a word leaves the parameters alone. -/
theorem State.mayInc_put {s : State} {e : EA} {l : Loc} {v : Word} (h : s.mayInc e) : (s.put l v).mayInc e := by
  simpa [State.mayInc] using h

/-! ## Updates of the state, in the terms of claims -/

@[simp] theorem Mach.setPc_st (m : Mach) (a : Addr) : (m.setPc a).st = m.st.goto a := rfl
@[simp] theorem Mach.advance_st (m : Mach) (k : Half) : (m.advance k).st = m.st.goto (m.st.pcPlus k) := rfl
@[simp] theorem Mach.drawn_st (m : Mach) : m.drawn.st = m.st.draw 1 := rfl
@[simp] theorem Mach.setFree_st (m : Mach) (n : AcNum) : (m.setFree n).st = m.st.setFree n := rfl
@[simp] theorem Mach.x_st (m : Mach) (n : AcNum) : m.x n = m.st.x n := rfl
@[simp] theorem State.setX_pcPlus (s : State) (n : AcNum) (v : Word) (k : Half) : (s.setX n v).pcPlus k = s.pcPlus k := rfl
@[simp] theorem State.put_pcPlus (s : State) (l : Loc) (v : Word) (k : Half) : (s.put l v).pcPlus k = s.pcPlus k := by
  simp [State.pcPlus]
@[simp] theorem State.put_pcSec (s : State) (l : Loc) (v : Word) : (s.put l v).pcSec = s.pcSec := by simp [State.pcSec]
@[simp] theorem State.setX_pcSec (s : State) (n : AcNum) (v : Word) : (s.setX n v).pcSec = s.pcSec := rfl
theorem State.x_setX_other (s : State) {n n' : AcNum} (h : n' ≠ n) (v : Word) : (s.setX n v).x n' = s.x n' :=
  State.ac_setAc_other s (.inr h) v
@[simp] theorem State.locate_draw (s : State) (k : Nat) (e : EA) (c : Ctx) (acc : Access) :
    (s.draw k).locate e c acc = s.locate e c acc := rfl
@[simp] theorem State.get_draw (s : State) (k : Nat) (l : Loc) : (s.draw k).get l = s.get l := by cases l <;> rfl
@[simp] theorem State.x_draw (s : State) (k : Nat) (n : AcNum) : (s.draw k).x n = s.x n := rfl
@[simp] theorem State.draw_draw (s : State) (j k : Nat) : (s.draw j).draw k = s.draw (j + k) := by
  simp [State.draw, Nat.add_assoc]

/-- AC results, one at a time. -/
theorem setResults_st (op : Nat) (args : List Word) (a : AcNum) (outs : List AcNum) :
    ∀ m, (setResults op args a outs m).st = m.st.acResults op args a outs := by
  induction outs with
  | nil => exact fun _ => rfl
  | cons d t ih => exact fun m => ih _

/-- AC results leave the PC, the flags and the parameters alone. -/
theorem State.acResults_frame (op : Nat) (args : List Word) (a : AcNum) (outs : List AcNum) :
    ∀ s : State, (s.acResults op args a outs).pc = s.pc ∧ (s.acResults op args a outs).flags = s.flags := by
  induction outs with
  | nil => exact fun _ => ⟨rfl, rfl⟩
  | cons d t ih => exact fun s => ih _

@[simp] theorem State.acResults_pcPlus (s : State) (op : Nat) (args : List Word) (a : AcNum) (outs : List AcNum) (k : Half) :
    (s.acResults op args a outs).pcPlus k = s.pcPlus k := by
  unfold State.pcPlus
  rw [(State.acResults_frame op args a outs s).1]

/-! ## The data step -/

/-- The flags and the PC of a data step. -/
theorem dataFlags_skipIf (op : Nat) (args : List Word) (b : Bool) (m : Mach) :
    ((m.dataFlags op args).skipIf b).st = m.st.dataEnd op args (m.st.pcPlus (if b then 2 else 1)) := rfl

/-- The end of every data step: AC results, flags, PC. -/
theorem dataOp_end (op : Nat) (args : List Word) (a : AcNum) (outs : List AcNum) (spares : Bool) (skips : Bool) (m : Mach) :
    ((Mach.dataFlags (if (spares && a == 0) = true then m else setResults op args a outs m) op args).skipIf
        (skips && Config.dataCond op args)).st =
      (if spares = true ∧ a = 0 then m.st else m.st.acResults op args a outs).dataEnd op args
        (m.st.pcAfter op args skips) := by
  have hc : (spares && a == 0) = true ↔ spares = true ∧ a = 0 := by simp
  rw [dataFlags_skipIf]
  by_cases h : spares = true ∧ a = 0
  · rw [if_pos (hc.2 h), if_pos h, State.pcAfter]
  · rw [if_neg (fun hn => h (hc.1 hn)), if_neg h, setResults_st, State.acResults_pcPlus, State.pcAfter]

/-- The immediate form (47_general.md R393, R400). -/
theorem dataOp_imm {iw : Word} {op : Nat} {ins outs : List AcNum} {spares skips : Bool} {px : PxClass} {n : Nat} {a : AcNum}
    {e : AddrFields} {s : State} {ea : EA} (h : s.eaOf e = .ok ea) :
    let args := s.acOperands a ins ++ [join 0 (offOf ea.addr)]
    runTop iw (dataOp op { use := .imm, words := n, ins := ins, outs := outs, unlessAc0 := spares, skips := skips, px := px } a e) s =
      .next ((if spares = true ∧ a = 0 then s else s.acResults op args a outs).dataEnd op args (s.pcAfter op args skips)) := by
  intro args
  refine (runTop_ok ?_).trans (congrArg _ (dataOp_end op args a outs spares skips (.start s (some iw))))
  simp only [dataOp, instrEa_ok h, Run.ok_bind]
  rfl

/-- The form that reads E. -/
theorem dataOp_read {iw : Word} {op : Nat} {ins outs : List AcNum} {spares skips : Bool} {px : PxClass} {a : AcNum}
    {e : AddrFields} {s : State} {ea : EA} {l : Loc} (h : s.eaOf e = .ok ea) (hl : s.locate ea .cur .read = .ok l) :
    let args := s.acOperands a ins ++ [s.get l]
    runTop iw (dataOp op { use := .read, ins := ins, outs := outs, unlessAc0 := spares, skips := skips, px := px } a e) s =
      .next ((if spares = true ∧ a = 0 then s else s.acResults op args a outs).dataEnd op args (s.pcAfter op args skips)) := by
  intro args
  refine (runTop_ok ?_).trans (congrArg _ (dataOp_end op args a outs spares skips (.start s (some iw))))
  have hr : (Mach.start s (some iw)).read ea .cur = .ok (s.get l) := Mach.read_ok hl
  simp only [dataOp, instrEa_ok h, Run.ok_bind, dataOperands, readWords, State.top_dataCtx, hr, Run.pure_eq]
  rfl

/-- The form that reads E and `Inc(E)`. -/
theorem dataOp_read2 {iw : Word} {op : Nat} {ins outs : List AcNum} {spares skips : Bool} {px : PxClass} {a : AcNum}
    {e : AddrFields} {s : State} {ea : EA} {l1 l2 : Loc} (h : s.eaOf e = .ok ea) (hm : s.mayInc ea)
    (h1 : s.locate ea .cur .read = .ok l1) (h2 : s.locate (inc ea) .cur .read = .ok l2) :
    let args := s.acOperands a ins ++ [s.get l1, s.get l2]
    runTop iw (dataOp op { use := .read, words := 2, ins := ins, outs := outs, unlessAc0 := spares, skips := skips, px := px } a e) s =
      .next ((if spares = true ∧ a = 0 then s else s.acResults op args a outs).dataEnd op args (s.pcAfter op args skips)) := by
  intro args
  refine (runTop_ok ?_).trans (congrArg _ (dataOp_end op args a outs spares skips (.start s (some iw))))
  have hr1 : (Mach.start s (some iw)).read ea .cur = .ok (s.get l1) := Mach.read_ok h1
  have hr2 : (Mach.start s (some iw)).read (inc ea) .cur = .ok (s.get l2) := Mach.read_ok h2
  have hi : (Mach.start s (some iw)).ruling (atTop ea) .addressTop = .ok () := Mach.ruling_mayInc hm
  simp only [dataOp, instrEa_ok h, Run.ok_bind, dataOperands, readWords, State.top_dataCtx, hr1, hr2, Run.pure_eq,
    ruling_last, ruling_more, hi]
  rfl

/-- Where Inc of E is refused, so is the two-word form that reads, after its first reference (20_memory.md R70). -/
theorem dataOp_read2_refused {iw : Word} {op : Nat} {ins outs : List AcNum} {spares skips : Bool} {px : PxClass} {a : AcNum}
    {e : AddrFields} {s : State} {ea : EA} {l1 : Loc} (h : s.eaOf e = .ok ea) (hm : s.topRefused ea)
    (h1 : s.locate ea .cur .read = .ok l1) :
    runTop iw (dataOp op { use := .read, words := 2, ins := ins, outs := outs, unlessAc0 := spares, skips := skips, px := px } a e) s =
      .refused .addressTop := by
  refine runTop_refused ?_
  have hr1 : (Mach.start s (some iw)).read ea .cur = .ok (s.get l1) := Mach.read_ok h1
  have hi : (Mach.start s (some iw)).ruling (atTop ea) .addressTop = refuse .addressTop := Mach.ruling_topRefused hm
  simp only [dataOp, instrEa_ok h, Run.ok_bind, dataOperands, readWords, State.top_dataCtx, hr1, ruling_more, hi]
  rfl

@[simp] theorem State.acOperands_put (s : State) (l : Loc) (v : Word) (op : Nat) (args : List Word) (skips : Bool) :
    (s.put l v).pcAfter op args skips = s.pcAfter op args skips := by simp [State.pcAfter]

/-- The form that writes E. -/
theorem dataOp_write {iw : Word} {op : Nat} {ins outs : List AcNum} {spares skips : Bool} {px : PxClass} {a : AcNum}
    {e : AddrFields} {s : State} {ea : EA} {l : Loc} (h : s.eaOf e = .ok ea) (hl : s.locate ea .cur .write = .ok l) :
    let args := s.acOperands a ins
    let s1 := s.put l (Config.dataResult op 0 (s.get l :: args))
    runTop iw (dataOp op { use := .write, ins := ins, outs := outs, unlessAc0 := spares, skips := skips, px := px } a e) s =
      .next ((if spares = true ∧ a = 0 then s1 else s1.acResults op args a outs).dataEnd op args (s.pcAfter op args skips)) := by
  intro args s1
  have hw := Mach.update_ok (m := .start s (some iw)) hl (fun old => Config.dataResult op 0 (old :: args))
  rw [← State.acOperands_put s l (Config.dataResult op 0 (s.get l :: args))]
  refine (runTop_ok ?_).trans (congrArg _ (dataOp_end op args a outs spares skips (Mach.put (.start s (some iw)) l _)))
  simp only [dataOp, instrEa_ok h, Run.ok_bind, dataOperands, State.top_dataCtx, Run.pure_eq, writeResults]
  rw [show ins.map (fun d => (Mach.start s (some iw)).x (a + d)) = s.acOperands a ins from rfl, hw]
  rfl

/-- The form that writes E and `Inc(E)`. -/
theorem dataOp_write2 {iw : Word} {op : Nat} {ins outs : List AcNum} {spares skips : Bool} {px : PxClass} {a : AcNum}
    {e : AddrFields} {s : State} {ea : EA} {l1 l2 : Loc} (h : s.eaOf e = .ok ea) (hm : s.mayInc ea)
    (h1 : s.locate ea .cur .write = .ok l1) (h2 : s.locate (inc ea) .cur .write = .ok l2) :
    let args := s.acOperands a ins
    let s1 := s.put l1 (Config.dataResult op 0 (s.get l1 :: args))
    let s2 := s1.put l2 (Config.dataResult op 1 (s1.get l2 :: args))
    runTop iw (dataOp op { use := .write, words := 2, ins := ins, outs := outs, unlessAc0 := spares, skips := skips, px := px } a e) s =
      .next ((if spares = true ∧ a = 0 then s2 else s2.acResults op args a outs).dataEnd op args (s.pcAfter op args skips)) := by
  intro args s1 s2
  have hw1 := Mach.update_ok (m := .start s (some iw)) h1 (fun old => Config.dataResult op 0 (old :: args))
  have hw2 := Mach.update_ok (m := Mach.put (.start s (some iw)) l1 (Config.dataResult op 0 (s.get l1 :: args))) (e := inc ea)
    (c := .cur) (l := l2) (by simpa using h2) (fun old => Config.dataResult op 1 (old :: args))
  have hp : s.pcAfter op args skips = s2.pcAfter op args skips := by simp [s2, s1]
  rw [hp]
  refine (runTop_ok ?_).trans (congrArg _ (dataOp_end op args a outs spares skips (Mach.put (Mach.put (.start s (some iw)) l1 _) l2 _)))
  simp only [dataOp, instrEa_ok h, Run.ok_bind, dataOperands, State.top_dataCtx, Run.pure_eq, writeResults]
  have hi : (Mach.put (.start s (some iw)) l1 (Config.dataResult op 0 (s.get l1 :: args))).ruling (atTop ea) .addressTop = .ok () :=
    Mach.ruling_mayInc (State.mayInc_put hm)
  rw [show ins.map (fun d => (Mach.start s (some iw)).x (a + d)) = s.acOperands a ins from rfl, hw1]
  simp only [Run.ok_bind, Mach.start_st, Nat.zero_add, ruling_last, ruling_more]
  rw [show Mach.ruling _ _ _ = _ from hi, Run.ok_bind, hw2]
  rfl

/-- Where Inc of E is refused, so is the two-word form that writes, after its first reference (20_memory.md R70). -/
theorem dataOp_write2_refused {iw : Word} {op : Nat} {ins outs : List AcNum} {spares skips : Bool} {px : PxClass} {a : AcNum}
    {e : AddrFields} {s : State} {ea : EA} {l1 : Loc} (h : s.eaOf e = .ok ea) (hm : s.topRefused ea)
    (h1 : s.locate ea .cur .write = .ok l1) :
    runTop iw (dataOp op { use := .write, words := 2, ins := ins, outs := outs, unlessAc0 := spares, skips := skips, px := px } a e) s =
      .refused .addressTop := by
  refine runTop_refused ?_
  have hw1 := Mach.update_ok (m := .start s (some iw)) h1 (fun old => Config.dataResult op 0 (old :: s.acOperands a ins))
  have hi : (Mach.put (.start s (some iw)) l1 (Config.dataResult op 0 (s.get l1 :: s.acOperands a ins))).ruling (atTop ea) .addressTop =
      refuse .addressTop := Mach.ruling_topRefused ⟨by simpa using hm.1, hm.2⟩
  simp only [dataOp, instrEa_ok h, Run.ok_bind, dataOperands, State.top_dataCtx, Run.pure_eq, writeResults, ruling_more]
  rw [show ins.map (fun d => (Mach.start s (some iw)).x (a + d)) = s.acOperands a ins from rfl, hw1, Run.ok_bind]
  simp only [Mach.start_st]
  rw [hi]
  rfl

/-- The form that reads and writes E. -/
theorem dataOp_both {iw : Word} {op : Nat} {ins outs : List AcNum} {spares skips : Bool} {px : PxClass} {a : AcNum}
    {e : AddrFields} {s : State} {ea : EA} {l : Loc} (h : s.eaOf e = .ok ea) (hl : s.at ea l) :
    let args := s.acOperands a ins ++ [s.get l]
    let s1 := s.put l (Config.dataResult op 0 (s.get l :: args))
    runTop iw (dataOp op { use := .both, ins := ins, outs := outs, unlessAc0 := spares, skips := skips, px := px } a e) s =
      .next ((if spares = true ∧ a = 0 then s1 else s1.acResults op args a outs).dataEnd op args (s.pcAfter op args skips)) := by
  intro args s1
  have hr : (Mach.start s (some iw)).read ea .cur = .ok (s.get l) := Mach.read_ok hl.1
  have hw := Mach.update_ok (m := .start s (some iw)) hl.2
    (fun old => Config.dataResult op 0 (old :: (s.acOperands a ins ++ [s.get l])))
  rw [← State.acOperands_put s l (Config.dataResult op 0 (s.get l :: (s.acOperands a ins ++ [s.get l])))]
  refine (runTop_ok ?_).trans (congrArg _ (dataOp_end op args a outs spares skips (Mach.put (.start s (some iw)) l _)))
  simp only [dataOp, instrEa_ok h, Run.ok_bind, dataOperands, readWords, State.top_dataCtx, hr, Run.pure_eq, writeResults,
    ruling_last]
  rw [show ins.map (fun d => (Mach.start s (some iw)).x (a + d)) = s.acOperands a ins from rfl, hw]
  rfl

/-- The conditional jump (43_jumps.md R283). -/
theorem jumpOp_top {iw : Word} {op : Nat} {outs : List AcNum} {a : AcNum} {e : AddrFields} {s : State} {ea : EA}
    (h : s.eaOf e = .ok ea) :
    runTop iw (jumpOp op outs a e) s = .next ((s.acResults op [s.x a] a outs).dataEnd op [s.x a]
      (if Config.dataCond op [s.x a] then ea.addr else s.pcPlus 1)) := by
  have hb : jumpOp op outs a e s.top (.start s (some iw)) = .ok (if Config.dataCond op [s.x a] then
      ((setResults op [s.x a] a outs (.start s (some iw))).dataFlags op [s.x a]).setPc ea.addr else
      ((setResults op [s.x a] a outs (.start s (some iw))).dataFlags op [s.x a]).advance 1) := by
    simp only [jumpOp, instrEa_ok h, Run.ok_bind]
    rfl
  refine (runTop_ok hb).trans (congrArg _ ?_)
  have hs : (setResults op [s.x a] a outs (.start s (some iw))).st = s.acResults op [s.x a] a outs := setResults_st ..
  by_cases hc : Config.dataCond op [s.x a] = true
  · rw [if_pos hc, if_pos hc, ← hs]
    rfl
  · rw [if_neg hc, if_neg hc, ← State.acResults_pcPlus s op [s.x a] a outs 1, ← hs]
    rfl

/-! ## `exec`, from what the meaning of the instruction answers -/

/-- A meaning that ends well gives the next state. -/
theorem exec_next {i : Instr} {s t : State}
    (h : ∃ m, bodyOf runWord i s.top (.start s (some (trapWord i))) = .ok m ∧ m.st = t) : exec i s = .next t := by
  obtain ⟨m, hm, rfl⟩ := h
  rw [exec_eq]
  exact runTop_ok hm

/-- A meaning that page fails before it writes enters the page fail from the state as it was. -/
theorem exec_pageFail {i : Instr} {s : State} {pf : PageFail} (ht : s.cfg.traps.pageFail = some .pageFailSketch)
    (h : bodyOf runWord i s.top (.start s (some (trapWord i))) =
      .error (.trap (.pageFail pf) (.start s (some (trapWord i))))) : exec i s = .next (s.enterPageFail pf) := by
  rw [exec_eq]
  exact (runTop_trap h).trans (takeTrap_pageFail ht)

/-- A meaning that is an MUUO enters the monitor. -/
theorem exec_muuo {i : Instr} {s : State} {op : BitVec 9} {a : AcNum} {e : EA} (ht : s.cfg.traps.muuo = some .muuoSketch)
    (h : bodyOf runWord i s.top (.start s (some (trapWord i))) =
      .error (.trap (.muuo op a e) (.start s (some (trapWord i))))) : exec i s = .next (s.enterMuuo op a e) := by
  rw [exec_eq]
  exact (runTop_trap h).trans (takeTrap_muuo ht)

/-- A meaning that refuses. -/
theorem exec_refused {i : Instr} {s : State} {r : Refusal}
    (h : bodyOf runWord i s.top (.start s (some (trapWord i))) = .error (.refused r)) : exec i s = .refused r := by
  rw [exec_eq]
  exact runTop_refused h

/-- A meaning that stops in a fault. -/
theorem exec_fault {i : Instr} {s : State} {r : Fault}
    (h : bodyOf runWord i s.top (.start s (some (trapWord i))) = .error (.fault r)) : exec i s = .fault r := by
  rw [exec_eq, runTop, h]

/-- Of a string with nothing left, no byte is taken. -/
theorem freeCount_zero (m : Mach) : freeCount m 0 = 0 := Nat.mod_one _

/-- The in-section part of an address put together from its parts. -/
theorem offOf_mkAddr (s : Sec) (n : Half) : offOf (mkAddr s n) = n := BitVec.extractLsb'_append_eq_right

/-- The section of an address put together from its parts. -/
theorem secOf_mkAddr (s : Sec) (n : Half) : secOf (mkAddr s n) = s := BitVec.extractLsb'_append_eq_left

end Sys2Proof.Machine
end

