-- ==== Sys2Proof/Laws/Encoding.lean ====
section
/-! SUPPORT. The fields of an instruction word are what it was built from, and a word is built from its fields. -/

namespace Sys2Proof

open Sys2Proof.Machine

@[simp] theorem opField_instrWord (op : BitVec 9) (a : AcNum) (e : AddrFields) : opField (instrWord op a e) = op := by
  ext i hi
  simp only [opField, instrWord, packWord, BitVec.getElem_extractLsb', BitVec.getLsbD_append, BitVec.getLsbD_ofBool]
  rw [← BitVec.getLsbD_eq_getElem]
  have h1 : ¬ 27 + i < 18 := by omega
  have h2 : ¬ 27 + i - 18 < 4 := by omega
  have h3 : ¬ 27 + i - 18 - 4 < 1 := by omega
  have h4 : ¬ 27 + i - 18 - 4 - 1 < 4 := by omega
  simp only [h1, h2, h3, h4, if_false]
  congr 1
  omega

@[simp] theorem acField_instrWord (op : BitVec 9) (a : AcNum) (e : AddrFields) : acField (instrWord op a e) = a := by
  ext i hi
  simp only [acField, instrWord, packWord, BitVec.getElem_extractLsb', BitVec.getLsbD_append, BitVec.getLsbD_ofBool]
  rw [← BitVec.getLsbD_eq_getElem]
  have h1 : ¬ 23 + i < 18 := by omega
  have h2 : ¬ 23 + i - 18 < 4 := by omega
  have h3 : ¬ 23 + i - 18 - 4 < 1 := by omega
  have h4 : 23 + i - 18 - 4 - 1 < 4 := by omega
  simp only [h1, h2, h3, h4, if_false, if_true]
  congr 1
  omega

@[simp] theorem fieldsOf_instrWord (op : BitVec 9) (a : AcNum) (e : AddrFields) : fieldsOf (instrWord op a e) = e := by
  obtain ⟨i, x, y⟩ := e
  simp only [fieldsOf, AddrFields.mk.injEq]
  refine ⟨?_, ?_, ?_⟩
  · simp only [ifiwI, bitAt, instrWord, packWord, BitVec.getMsbD, BitVec.getLsbD_append, BitVec.getLsbD_ofBool]
    simp
  · ext k hk
    simp only [ifiwX, instrWord, packWord, BitVec.getElem_extractLsb', BitVec.getLsbD_append]
    rw [← BitVec.getLsbD_eq_getElem]
    have h1 : ¬ 18 + k < 18 := by omega
    have h2 : 18 + k - 18 < 4 := by omega
    simp only [h1, h2, if_true, if_false]
    congr 1
    omega
  · ext k hk
    simp only [ifiwY, rh, instrWord, packWord, BitVec.getElem_extractLsb', BitVec.getLsbD_append]
    rw [← BitVec.getLsbD_eq_getElem]
    simp only [hk, if_true, Nat.zero_add]

/-- Nothing of a word is outside its opcode, AC field and address part. -/
theorem instrWord_fields (w : Word) : instrWord (opField w) (acField w) (fieldsOf w) = w := by
  ext k hk
  simp only [instrWord, packWord, fieldsOf, opField, acField, ifiwI, ifiwX, ifiwY, rh, bitAt]
  rw [← BitVec.getLsbD_eq_getElem, ← BitVec.getLsbD_eq_getElem]
  simp only [BitVec.getLsbD_append, BitVec.getLsbD_extractLsb', BitVec.getLsbD_ofBool, BitVec.getMsbD]
  by_cases h1 : k < 18
  · simp [h1]
  by_cases h2 : k - 18 < 4
  · have e2 : 18 + (k - 18) = k := by omega
    simp [h1, h2, e2]
  by_cases h3 : k - 18 - 4 < 1
  · have e3 : k = 22 := by omega
    subst e3; simp
  by_cases h4 : k - 18 - 4 - 1 < 4
  · have e4 : 23 + (k - 18 - 4 - 1) = k := by omega
    simp [h1, h2, h3, h4, e4]
  · have e5 : 27 + (k - 18 - 4 - 1 - 4) = k := by omega
    have h5 : k - 18 - 4 - 1 - 4 < 9 := by omega
    simp [h1, h2, h3, h4, h5, e5]

end Sys2Proof
end

