-- ==== Sys2Proof/Laws/PerInstr.lean ====
section
/-! SUPPORT. The family `Encoding`: the word of every instruction is exactly its opcode, its AC field and its address part. -/

namespace Sys2Proof.Laws.Encoding

open Sys2Proof.Machine

/-- The word of `i` is rebuilt from its opcode, AC field and address part (30_encoding.md R100, R126). -/
def Statement (i : Instr) : Prop := encode i = instrWord (opField (encode i)) (acField (encode i)) (fieldsOf (encode i))

theorem muuo000 (a : AcNum) (e : AddrFields) : Statement (.muuo000 a e) := (instrWord_fields _).symm
theorem luuo01 (a : AcNum) (e : AddrFields) : Statement (.luuo01 a e) := (instrWord_fields _).symm
theorem luuo02 (a : AcNum) (e : AddrFields) : Statement (.luuo02 a e) := (instrWord_fields _).symm
theorem luuo03 (a : AcNum) (e : AddrFields) : Statement (.luuo03 a e) := (instrWord_fields _).symm
theorem luuo04 (a : AcNum) (e : AddrFields) : Statement (.luuo04 a e) := (instrWord_fields _).symm
theorem luuo05 (a : AcNum) (e : AddrFields) : Statement (.luuo05 a e) := (instrWord_fields _).symm
theorem luuo06 (a : AcNum) (e : AddrFields) : Statement (.luuo06 a e) := (instrWord_fields _).symm
theorem luuo07 (a : AcNum) (e : AddrFields) : Statement (.luuo07 a e) := (instrWord_fields _).symm
theorem luuo10 (a : AcNum) (e : AddrFields) : Statement (.luuo10 a e) := (instrWord_fields _).symm
theorem luuo11 (a : AcNum) (e : AddrFields) : Statement (.luuo11 a e) := (instrWord_fields _).symm
theorem luuo12 (a : AcNum) (e : AddrFields) : Statement (.luuo12 a e) := (instrWord_fields _).symm
theorem luuo13 (a : AcNum) (e : AddrFields) : Statement (.luuo13 a e) := (instrWord_fields _).symm
theorem luuo14 (a : AcNum) (e : AddrFields) : Statement (.luuo14 a e) := (instrWord_fields _).symm
theorem luuo15 (a : AcNum) (e : AddrFields) : Statement (.luuo15 a e) := (instrWord_fields _).symm
theorem luuo16 (a : AcNum) (e : AddrFields) : Statement (.luuo16 a e) := (instrWord_fields _).symm
theorem luuo17 (a : AcNum) (e : AddrFields) : Statement (.luuo17 a e) := (instrWord_fields _).symm
theorem luuo20 (a : AcNum) (e : AddrFields) : Statement (.luuo20 a e) := (instrWord_fields _).symm
theorem luuo21 (a : AcNum) (e : AddrFields) : Statement (.luuo21 a e) := (instrWord_fields _).symm
theorem luuo22 (a : AcNum) (e : AddrFields) : Statement (.luuo22 a e) := (instrWord_fields _).symm
theorem luuo23 (a : AcNum) (e : AddrFields) : Statement (.luuo23 a e) := (instrWord_fields _).symm
theorem luuo24 (a : AcNum) (e : AddrFields) : Statement (.luuo24 a e) := (instrWord_fields _).symm
theorem luuo25 (a : AcNum) (e : AddrFields) : Statement (.luuo25 a e) := (instrWord_fields _).symm
theorem luuo26 (a : AcNum) (e : AddrFields) : Statement (.luuo26 a e) := (instrWord_fields _).symm
theorem luuo27 (a : AcNum) (e : AddrFields) : Statement (.luuo27 a e) := (instrWord_fields _).symm
theorem luuo30 (a : AcNum) (e : AddrFields) : Statement (.luuo30 a e) := (instrWord_fields _).symm
theorem luuo31 (a : AcNum) (e : AddrFields) : Statement (.luuo31 a e) := (instrWord_fields _).symm
theorem luuo32 (a : AcNum) (e : AddrFields) : Statement (.luuo32 a e) := (instrWord_fields _).symm
theorem luuo33 (a : AcNum) (e : AddrFields) : Statement (.luuo33 a e) := (instrWord_fields _).symm
theorem luuo34 (a : AcNum) (e : AddrFields) : Statement (.luuo34 a e) := (instrWord_fields _).symm
theorem luuo35 (a : AcNum) (e : AddrFields) : Statement (.luuo35 a e) := (instrWord_fields _).symm
theorem luuo36 (a : AcNum) (e : AddrFields) : Statement (.luuo36 a e) := (instrWord_fields _).symm
theorem luuo37 (a : AcNum) (e : AddrFields) : Statement (.luuo37 a e) := (instrWord_fields _).symm
theorem muuo040 (lo : BitVec 5) (a : AcNum) (e : AddrFields) : Statement (.muuo040 lo a e) := (instrWord_fields _).symm
theorem muuo100 (a : AcNum) (e : AddrFields) : Statement (.muuo100 a e) := (instrWord_fields _).symm
theorem muuo101 (a : AcNum) (e : AddrFields) : Statement (.muuo101 a e) := (instrWord_fields _).symm
theorem muuo102 (a : AcNum) (e : AddrFields) : Statement (.muuo102 a e) := (instrWord_fields _).symm
theorem muuo103 (a : AcNum) (e : AddrFields) : Statement (.muuo103 a e) := (instrWord_fields _).symm
theorem muuo106 (a : AcNum) (e : AddrFields) : Statement (.muuo106 a e) := (instrWord_fields _).symm
theorem muuo107 (a : AcNum) (e : AddrFields) : Statement (.muuo107 a e) := (instrWord_fields _).symm
theorem muuo247 (a : AcNum) (e : AddrFields) : Statement (.muuo247 a e) := (instrWord_fields _).symm
theorem jsys (a : AcNum) (e : AddrFields) : Statement (.jsys a e) := (instrWord_fields _).symm
theorem adjsp (a : AcNum) (e : AddrFields) : Statement (.adjsp a e) := (instrWord_fields _).symm
theorem dfad (a : AcNum) (e : AddrFields) : Statement (.dfad a e) := (instrWord_fields _).symm
theorem dfsb (a : AcNum) (e : AddrFields) : Statement (.dfsb a e) := (instrWord_fields _).symm
theorem dfmp (a : AcNum) (e : AddrFields) : Statement (.dfmp a e) := (instrWord_fields _).symm
theorem dfdv (a : AcNum) (e : AddrFields) : Statement (.dfdv a e) := (instrWord_fields _).symm
theorem dadd (a : AcNum) (e : AddrFields) : Statement (.dadd a e) := (instrWord_fields _).symm
theorem dsub (a : AcNum) (e : AddrFields) : Statement (.dsub a e) := (instrWord_fields _).symm
theorem dmul (a : AcNum) (e : AddrFields) : Statement (.dmul a e) := (instrWord_fields _).symm
theorem ddiv (a : AcNum) (e : AddrFields) : Statement (.ddiv a e) := (instrWord_fields _).symm
theorem dmove (a : AcNum) (e : AddrFields) : Statement (.dmove a e) := (instrWord_fields _).symm
theorem dmovn (a : AcNum) (e : AddrFields) : Statement (.dmovn a e) := (instrWord_fields _).symm
theorem fix (a : AcNum) (e : AddrFields) : Statement (.fix a e) := (instrWord_fields _).symm
theorem extend (a : AcNum) (e : AddrFields) : Statement (.extend a e) := (instrWord_fields _).symm
theorem dmovem (a : AcNum) (e : AddrFields) : Statement (.dmovem a e) := (instrWord_fields _).symm
theorem dmovnm (a : AcNum) (e : AddrFields) : Statement (.dmovnm a e) := (instrWord_fields _).symm
theorem fixr (a : AcNum) (e : AddrFields) : Statement (.fixr a e) := (instrWord_fields _).symm
theorem fltr (a : AcNum) (e : AddrFields) : Statement (.fltr a e) := (instrWord_fields _).symm
theorem ufa (a : AcNum) (e : AddrFields) : Statement (.ufa a e) := (instrWord_fields _).symm
theorem dfn (a : AcNum) (e : AddrFields) : Statement (.dfn a e) := (instrWord_fields _).symm
theorem fsc (a : AcNum) (e : AddrFields) : Statement (.fsc a e) := (instrWord_fields _).symm
theorem ibp (a : AcNum) (e : AddrFields) : Statement (.ibp a e) := (instrWord_fields _).symm
theorem ildb (a : AcNum) (e : AddrFields) : Statement (.ildb a e) := (instrWord_fields _).symm
theorem ldb (a : AcNum) (e : AddrFields) : Statement (.ldb a e) := (instrWord_fields _).symm
theorem idpb (a : AcNum) (e : AddrFields) : Statement (.idpb a e) := (instrWord_fields _).symm
theorem dpb (a : AcNum) (e : AddrFields) : Statement (.dpb a e) := (instrWord_fields _).symm
theorem fad (a : AcNum) (e : AddrFields) : Statement (.fad a e) := (instrWord_fields _).symm
theorem muuo141 (a : AcNum) (e : AddrFields) : Statement (.muuo141 a e) := (instrWord_fields _).symm
theorem fadm (a : AcNum) (e : AddrFields) : Statement (.fadm a e) := (instrWord_fields _).symm
theorem fadb (a : AcNum) (e : AddrFields) : Statement (.fadb a e) := (instrWord_fields _).symm
theorem fadr (a : AcNum) (e : AddrFields) : Statement (.fadr a e) := (instrWord_fields _).symm
theorem fadri (a : AcNum) (e : AddrFields) : Statement (.fadri a e) := (instrWord_fields _).symm
theorem fadrm (a : AcNum) (e : AddrFields) : Statement (.fadrm a e) := (instrWord_fields _).symm
theorem fadrb (a : AcNum) (e : AddrFields) : Statement (.fadrb a e) := (instrWord_fields _).symm
theorem fsb (a : AcNum) (e : AddrFields) : Statement (.fsb a e) := (instrWord_fields _).symm
theorem muuo151 (a : AcNum) (e : AddrFields) : Statement (.muuo151 a e) := (instrWord_fields _).symm
theorem fsbm (a : AcNum) (e : AddrFields) : Statement (.fsbm a e) := (instrWord_fields _).symm
theorem fsbb (a : AcNum) (e : AddrFields) : Statement (.fsbb a e) := (instrWord_fields _).symm
theorem fsbr (a : AcNum) (e : AddrFields) : Statement (.fsbr a e) := (instrWord_fields _).symm
theorem fsbri (a : AcNum) (e : AddrFields) : Statement (.fsbri a e) := (instrWord_fields _).symm
theorem fsbrm (a : AcNum) (e : AddrFields) : Statement (.fsbrm a e) := (instrWord_fields _).symm
theorem fsbrb (a : AcNum) (e : AddrFields) : Statement (.fsbrb a e) := (instrWord_fields _).symm
theorem fmp (a : AcNum) (e : AddrFields) : Statement (.fmp a e) := (instrWord_fields _).symm
theorem muuo161 (a : AcNum) (e : AddrFields) : Statement (.muuo161 a e) := (instrWord_fields _).symm
theorem fmpm (a : AcNum) (e : AddrFields) : Statement (.fmpm a e) := (instrWord_fields _).symm
theorem fmpb (a : AcNum) (e : AddrFields) : Statement (.fmpb a e) := (instrWord_fields _).symm
theorem fmpr (a : AcNum) (e : AddrFields) : Statement (.fmpr a e) := (instrWord_fields _).symm
theorem fmpri (a : AcNum) (e : AddrFields) : Statement (.fmpri a e) := (instrWord_fields _).symm
theorem fmprm (a : AcNum) (e : AddrFields) : Statement (.fmprm a e) := (instrWord_fields _).symm
theorem fmprb (a : AcNum) (e : AddrFields) : Statement (.fmprb a e) := (instrWord_fields _).symm
theorem fdv (a : AcNum) (e : AddrFields) : Statement (.fdv a e) := (instrWord_fields _).symm
theorem muuo171 (a : AcNum) (e : AddrFields) : Statement (.muuo171 a e) := (instrWord_fields _).symm
theorem fdvm (a : AcNum) (e : AddrFields) : Statement (.fdvm a e) := (instrWord_fields _).symm
theorem fdvb (a : AcNum) (e : AddrFields) : Statement (.fdvb a e) := (instrWord_fields _).symm
theorem fdvr (a : AcNum) (e : AddrFields) : Statement (.fdvr a e) := (instrWord_fields _).symm
theorem fdvri (a : AcNum) (e : AddrFields) : Statement (.fdvri a e) := (instrWord_fields _).symm
theorem fdvrm (a : AcNum) (e : AddrFields) : Statement (.fdvrm a e) := (instrWord_fields _).symm
theorem fdvrb (a : AcNum) (e : AddrFields) : Statement (.fdvrb a e) := (instrWord_fields _).symm
theorem move (a : AcNum) (e : AddrFields) : Statement (.move a e) := (instrWord_fields _).symm
theorem movei (a : AcNum) (e : AddrFields) : Statement (.movei a e) := (instrWord_fields _).symm
theorem movem (a : AcNum) (e : AddrFields) : Statement (.movem a e) := (instrWord_fields _).symm
theorem moves (a : AcNum) (e : AddrFields) : Statement (.moves a e) := (instrWord_fields _).symm
theorem movs (a : AcNum) (e : AddrFields) : Statement (.movs a e) := (instrWord_fields _).symm
theorem movsi (a : AcNum) (e : AddrFields) : Statement (.movsi a e) := (instrWord_fields _).symm
theorem movsm (a : AcNum) (e : AddrFields) : Statement (.movsm a e) := (instrWord_fields _).symm
theorem movss (a : AcNum) (e : AddrFields) : Statement (.movss a e) := (instrWord_fields _).symm
theorem movn (a : AcNum) (e : AddrFields) : Statement (.movn a e) := (instrWord_fields _).symm
theorem movni (a : AcNum) (e : AddrFields) : Statement (.movni a e) := (instrWord_fields _).symm
theorem movnm (a : AcNum) (e : AddrFields) : Statement (.movnm a e) := (instrWord_fields _).symm
theorem movns (a : AcNum) (e : AddrFields) : Statement (.movns a e) := (instrWord_fields _).symm
theorem movm (a : AcNum) (e : AddrFields) : Statement (.movm a e) := (instrWord_fields _).symm
theorem movmi (a : AcNum) (e : AddrFields) : Statement (.movmi a e) := (instrWord_fields _).symm
theorem movmm (a : AcNum) (e : AddrFields) : Statement (.movmm a e) := (instrWord_fields _).symm
theorem movms (a : AcNum) (e : AddrFields) : Statement (.movms a e) := (instrWord_fields _).symm
theorem imul (a : AcNum) (e : AddrFields) : Statement (.imul a e) := (instrWord_fields _).symm
theorem imuli (a : AcNum) (e : AddrFields) : Statement (.imuli a e) := (instrWord_fields _).symm
theorem imulm (a : AcNum) (e : AddrFields) : Statement (.imulm a e) := (instrWord_fields _).symm
theorem imulb (a : AcNum) (e : AddrFields) : Statement (.imulb a e) := (instrWord_fields _).symm
theorem mul (a : AcNum) (e : AddrFields) : Statement (.mul a e) := (instrWord_fields _).symm
theorem muli (a : AcNum) (e : AddrFields) : Statement (.muli a e) := (instrWord_fields _).symm
theorem mulm (a : AcNum) (e : AddrFields) : Statement (.mulm a e) := (instrWord_fields _).symm
theorem mulb (a : AcNum) (e : AddrFields) : Statement (.mulb a e) := (instrWord_fields _).symm
theorem idiv (a : AcNum) (e : AddrFields) : Statement (.idiv a e) := (instrWord_fields _).symm
theorem idivi (a : AcNum) (e : AddrFields) : Statement (.idivi a e) := (instrWord_fields _).symm
theorem idivm (a : AcNum) (e : AddrFields) : Statement (.idivm a e) := (instrWord_fields _).symm
theorem idivb (a : AcNum) (e : AddrFields) : Statement (.idivb a e) := (instrWord_fields _).symm
theorem div (a : AcNum) (e : AddrFields) : Statement (.div a e) := (instrWord_fields _).symm
theorem divi (a : AcNum) (e : AddrFields) : Statement (.divi a e) := (instrWord_fields _).symm
theorem divm (a : AcNum) (e : AddrFields) : Statement (.divm a e) := (instrWord_fields _).symm
theorem divb (a : AcNum) (e : AddrFields) : Statement (.divb a e) := (instrWord_fields _).symm
theorem ash (a : AcNum) (e : AddrFields) : Statement (.ash a e) := (instrWord_fields _).symm
theorem rot (a : AcNum) (e : AddrFields) : Statement (.rot a e) := (instrWord_fields _).symm
theorem lsh (a : AcNum) (e : AddrFields) : Statement (.lsh a e) := (instrWord_fields _).symm
theorem jffo (a : AcNum) (e : AddrFields) : Statement (.jffo a e) := (instrWord_fields _).symm
theorem ashc (a : AcNum) (e : AddrFields) : Statement (.ashc a e) := (instrWord_fields _).symm
theorem rotc (a : AcNum) (e : AddrFields) : Statement (.rotc a e) := (instrWord_fields _).symm
theorem lshc (a : AcNum) (e : AddrFields) : Statement (.lshc a e) := (instrWord_fields _).symm
theorem exch (a : AcNum) (e : AddrFields) : Statement (.exch a e) := (instrWord_fields _).symm
theorem blt (a : AcNum) (e : AddrFields) : Statement (.blt a e) := (instrWord_fields _).symm
theorem aobjp (a : AcNum) (e : AddrFields) : Statement (.aobjp a e) := (instrWord_fields _).symm
theorem aobjn (a : AcNum) (e : AddrFields) : Statement (.aobjn a e) := (instrWord_fields _).symm
theorem jrst (e : AddrFields) : Statement (.jrst e) := (instrWord_fields _).symm
theorem portal (e : AddrFields) : Statement (.portal e) := (instrWord_fields _).symm
theorem jrstf (e : AddrFields) : Statement (.jrstf e) := (instrWord_fields _).symm
theorem muuoJrst03 (e : AddrFields) : Statement (.muuoJrst03 e) := (instrWord_fields _).symm
theorem halt (e : AddrFields) : Statement (.halt e) := (instrWord_fields _).symm
theorem xjrstf (e : AddrFields) : Statement (.xjrstf e) := (instrWord_fields _).symm
theorem xjen (e : AddrFields) : Statement (.xjen e) := (instrWord_fields _).symm
theorem xpcw (e : AddrFields) : Statement (.xpcw e) := (instrWord_fields _).symm
theorem jrst10 (e : AddrFields) : Statement (.jrst10 e) := (instrWord_fields _).symm
theorem muuoJrst11 (e : AddrFields) : Statement (.muuoJrst11 e) := (instrWord_fields _).symm
theorem jen (e : AddrFields) : Statement (.jen e) := (instrWord_fields _).symm
theorem muuoJrst13 (e : AddrFields) : Statement (.muuoJrst13 e) := (instrWord_fields _).symm
theorem sfm (e : AddrFields) : Statement (.sfm e) := (instrWord_fields _).symm
theorem xjrst (e : AddrFields) : Statement (.xjrst e) := (instrWord_fields _).symm
theorem muuoJrst16 (e : AddrFields) : Statement (.muuoJrst16 e) := (instrWord_fields _).symm
theorem muuoJrst17 (e : AddrFields) : Statement (.muuoJrst17 e) := (instrWord_fields _).symm
theorem jfcl (a : AcNum) (e : AddrFields) : Statement (.jfcl a e) := (instrWord_fields _).symm
theorem xct (e : AddrFields) : Statement (.xct e) := (instrWord_fields _).symm
theorem pxct (n : AcNum) (e : AddrFields) : Statement (.pxct n e) := (instrWord_fields _).symm
theorem map (a : AcNum) (e : AddrFields) : Statement (.map a e) := (instrWord_fields _).symm
theorem pushj (a : AcNum) (e : AddrFields) : Statement (.pushj a e) := (instrWord_fields _).symm
theorem push (a : AcNum) (e : AddrFields) : Statement (.push a e) := (instrWord_fields _).symm
theorem pop (a : AcNum) (e : AddrFields) : Statement (.pop a e) := (instrWord_fields _).symm
theorem popj (a : AcNum) (e : AddrFields) : Statement (.popj a e) := (instrWord_fields _).symm
theorem jsr (a : AcNum) (e : AddrFields) : Statement (.jsr a e) := (instrWord_fields _).symm
theorem jsp (a : AcNum) (e : AddrFields) : Statement (.jsp a e) := (instrWord_fields _).symm
theorem jsa (a : AcNum) (e : AddrFields) : Statement (.jsa a e) := (instrWord_fields _).symm
theorem jra (a : AcNum) (e : AddrFields) : Statement (.jra a e) := (instrWord_fields _).symm
theorem add (a : AcNum) (e : AddrFields) : Statement (.add a e) := (instrWord_fields _).symm
theorem addi (a : AcNum) (e : AddrFields) : Statement (.addi a e) := (instrWord_fields _).symm
theorem addm (a : AcNum) (e : AddrFields) : Statement (.addm a e) := (instrWord_fields _).symm
theorem addb (a : AcNum) (e : AddrFields) : Statement (.addb a e) := (instrWord_fields _).symm
theorem sub (a : AcNum) (e : AddrFields) : Statement (.sub a e) := (instrWord_fields _).symm
theorem subi (a : AcNum) (e : AddrFields) : Statement (.subi a e) := (instrWord_fields _).symm
theorem subm (a : AcNum) (e : AddrFields) : Statement (.subm a e) := (instrWord_fields _).symm
theorem subb (a : AcNum) (e : AddrFields) : Statement (.subb a e) := (instrWord_fields _).symm
theorem cai (a : AcNum) (e : AddrFields) : Statement (.cai a e) := (instrWord_fields _).symm
theorem cail (a : AcNum) (e : AddrFields) : Statement (.cail a e) := (instrWord_fields _).symm
theorem caie (a : AcNum) (e : AddrFields) : Statement (.caie a e) := (instrWord_fields _).symm
theorem caile (a : AcNum) (e : AddrFields) : Statement (.caile a e) := (instrWord_fields _).symm
theorem caia (a : AcNum) (e : AddrFields) : Statement (.caia a e) := (instrWord_fields _).symm
theorem caige (a : AcNum) (e : AddrFields) : Statement (.caige a e) := (instrWord_fields _).symm
theorem cain (a : AcNum) (e : AddrFields) : Statement (.cain a e) := (instrWord_fields _).symm
theorem caig (a : AcNum) (e : AddrFields) : Statement (.caig a e) := (instrWord_fields _).symm
theorem cam (a : AcNum) (e : AddrFields) : Statement (.cam a e) := (instrWord_fields _).symm
theorem caml (a : AcNum) (e : AddrFields) : Statement (.caml a e) := (instrWord_fields _).symm
theorem came (a : AcNum) (e : AddrFields) : Statement (.came a e) := (instrWord_fields _).symm
theorem camle (a : AcNum) (e : AddrFields) : Statement (.camle a e) := (instrWord_fields _).symm
theorem cama (a : AcNum) (e : AddrFields) : Statement (.cama a e) := (instrWord_fields _).symm
theorem camge (a : AcNum) (e : AddrFields) : Statement (.camge a e) := (instrWord_fields _).symm
theorem camn (a : AcNum) (e : AddrFields) : Statement (.camn a e) := (instrWord_fields _).symm
theorem camg (a : AcNum) (e : AddrFields) : Statement (.camg a e) := (instrWord_fields _).symm
theorem jump (a : AcNum) (e : AddrFields) : Statement (.jump a e) := (instrWord_fields _).symm
theorem jumpl (a : AcNum) (e : AddrFields) : Statement (.jumpl a e) := (instrWord_fields _).symm
theorem jumpe (a : AcNum) (e : AddrFields) : Statement (.jumpe a e) := (instrWord_fields _).symm
theorem jumple (a : AcNum) (e : AddrFields) : Statement (.jumple a e) := (instrWord_fields _).symm
theorem jumpa (a : AcNum) (e : AddrFields) : Statement (.jumpa a e) := (instrWord_fields _).symm
theorem jumpge (a : AcNum) (e : AddrFields) : Statement (.jumpge a e) := (instrWord_fields _).symm
theorem jumpn (a : AcNum) (e : AddrFields) : Statement (.jumpn a e) := (instrWord_fields _).symm
theorem jumpg (a : AcNum) (e : AddrFields) : Statement (.jumpg a e) := (instrWord_fields _).symm
theorem skip (a : AcNum) (e : AddrFields) : Statement (.skip a e) := (instrWord_fields _).symm
theorem skipl (a : AcNum) (e : AddrFields) : Statement (.skipl a e) := (instrWord_fields _).symm
theorem skipe (a : AcNum) (e : AddrFields) : Statement (.skipe a e) := (instrWord_fields _).symm
theorem skiple (a : AcNum) (e : AddrFields) : Statement (.skiple a e) := (instrWord_fields _).symm
theorem skipa (a : AcNum) (e : AddrFields) : Statement (.skipa a e) := (instrWord_fields _).symm
theorem skipge (a : AcNum) (e : AddrFields) : Statement (.skipge a e) := (instrWord_fields _).symm
theorem skipn (a : AcNum) (e : AddrFields) : Statement (.skipn a e) := (instrWord_fields _).symm
theorem skipg (a : AcNum) (e : AddrFields) : Statement (.skipg a e) := (instrWord_fields _).symm
theorem aoj (a : AcNum) (e : AddrFields) : Statement (.aoj a e) := (instrWord_fields _).symm
theorem aojl (a : AcNum) (e : AddrFields) : Statement (.aojl a e) := (instrWord_fields _).symm
theorem aoje (a : AcNum) (e : AddrFields) : Statement (.aoje a e) := (instrWord_fields _).symm
theorem aojle (a : AcNum) (e : AddrFields) : Statement (.aojle a e) := (instrWord_fields _).symm
theorem aoja (a : AcNum) (e : AddrFields) : Statement (.aoja a e) := (instrWord_fields _).symm
theorem aojge (a : AcNum) (e : AddrFields) : Statement (.aojge a e) := (instrWord_fields _).symm
theorem aojn (a : AcNum) (e : AddrFields) : Statement (.aojn a e) := (instrWord_fields _).symm
theorem aojg (a : AcNum) (e : AddrFields) : Statement (.aojg a e) := (instrWord_fields _).symm
theorem aos (a : AcNum) (e : AddrFields) : Statement (.aos a e) := (instrWord_fields _).symm
theorem aosl (a : AcNum) (e : AddrFields) : Statement (.aosl a e) := (instrWord_fields _).symm
theorem aose (a : AcNum) (e : AddrFields) : Statement (.aose a e) := (instrWord_fields _).symm
theorem aosle (a : AcNum) (e : AddrFields) : Statement (.aosle a e) := (instrWord_fields _).symm
theorem aosa (a : AcNum) (e : AddrFields) : Statement (.aosa a e) := (instrWord_fields _).symm
theorem aosge (a : AcNum) (e : AddrFields) : Statement (.aosge a e) := (instrWord_fields _).symm
theorem aosn (a : AcNum) (e : AddrFields) : Statement (.aosn a e) := (instrWord_fields _).symm
theorem aosg (a : AcNum) (e : AddrFields) : Statement (.aosg a e) := (instrWord_fields _).symm
theorem soj (a : AcNum) (e : AddrFields) : Statement (.soj a e) := (instrWord_fields _).symm
theorem sojl (a : AcNum) (e : AddrFields) : Statement (.sojl a e) := (instrWord_fields _).symm
theorem soje (a : AcNum) (e : AddrFields) : Statement (.soje a e) := (instrWord_fields _).symm
theorem sojle (a : AcNum) (e : AddrFields) : Statement (.sojle a e) := (instrWord_fields _).symm
theorem soja (a : AcNum) (e : AddrFields) : Statement (.soja a e) := (instrWord_fields _).symm
theorem sojge (a : AcNum) (e : AddrFields) : Statement (.sojge a e) := (instrWord_fields _).symm
theorem sojn (a : AcNum) (e : AddrFields) : Statement (.sojn a e) := (instrWord_fields _).symm
theorem sojg (a : AcNum) (e : AddrFields) : Statement (.sojg a e) := (instrWord_fields _).symm
theorem sos (a : AcNum) (e : AddrFields) : Statement (.sos a e) := (instrWord_fields _).symm
theorem sosl (a : AcNum) (e : AddrFields) : Statement (.sosl a e) := (instrWord_fields _).symm
theorem sose (a : AcNum) (e : AddrFields) : Statement (.sose a e) := (instrWord_fields _).symm
theorem sosle (a : AcNum) (e : AddrFields) : Statement (.sosle a e) := (instrWord_fields _).symm
theorem sosa (a : AcNum) (e : AddrFields) : Statement (.sosa a e) := (instrWord_fields _).symm
theorem sosge (a : AcNum) (e : AddrFields) : Statement (.sosge a e) := (instrWord_fields _).symm
theorem sosn (a : AcNum) (e : AddrFields) : Statement (.sosn a e) := (instrWord_fields _).symm
theorem sosg (a : AcNum) (e : AddrFields) : Statement (.sosg a e) := (instrWord_fields _).symm
theorem setz (a : AcNum) (e : AddrFields) : Statement (.setz a e) := (instrWord_fields _).symm
theorem setzi (a : AcNum) (e : AddrFields) : Statement (.setzi a e) := (instrWord_fields _).symm
theorem setzm (a : AcNum) (e : AddrFields) : Statement (.setzm a e) := (instrWord_fields _).symm
theorem setzb (a : AcNum) (e : AddrFields) : Statement (.setzb a e) := (instrWord_fields _).symm
theorem and (a : AcNum) (e : AddrFields) : Statement (.and a e) := (instrWord_fields _).symm
theorem andi (a : AcNum) (e : AddrFields) : Statement (.andi a e) := (instrWord_fields _).symm
theorem andm (a : AcNum) (e : AddrFields) : Statement (.andm a e) := (instrWord_fields _).symm
theorem andb (a : AcNum) (e : AddrFields) : Statement (.andb a e) := (instrWord_fields _).symm
theorem andca (a : AcNum) (e : AddrFields) : Statement (.andca a e) := (instrWord_fields _).symm
theorem andcai (a : AcNum) (e : AddrFields) : Statement (.andcai a e) := (instrWord_fields _).symm
theorem andcam (a : AcNum) (e : AddrFields) : Statement (.andcam a e) := (instrWord_fields _).symm
theorem andcab (a : AcNum) (e : AddrFields) : Statement (.andcab a e) := (instrWord_fields _).symm
theorem setm (a : AcNum) (e : AddrFields) : Statement (.setm a e) := (instrWord_fields _).symm
theorem xmovei (a : AcNum) (e : AddrFields) : Statement (.xmovei a e) := (instrWord_fields _).symm
theorem setmm (a : AcNum) (e : AddrFields) : Statement (.setmm a e) := (instrWord_fields _).symm
theorem setmb (a : AcNum) (e : AddrFields) : Statement (.setmb a e) := (instrWord_fields _).symm
theorem andcm (a : AcNum) (e : AddrFields) : Statement (.andcm a e) := (instrWord_fields _).symm
theorem andcmi (a : AcNum) (e : AddrFields) : Statement (.andcmi a e) := (instrWord_fields _).symm
theorem andcmm (a : AcNum) (e : AddrFields) : Statement (.andcmm a e) := (instrWord_fields _).symm
theorem andcmb (a : AcNum) (e : AddrFields) : Statement (.andcmb a e) := (instrWord_fields _).symm
theorem seta (a : AcNum) (e : AddrFields) : Statement (.seta a e) := (instrWord_fields _).symm
theorem setai (a : AcNum) (e : AddrFields) : Statement (.setai a e) := (instrWord_fields _).symm
theorem setam (a : AcNum) (e : AddrFields) : Statement (.setam a e) := (instrWord_fields _).symm
theorem setab (a : AcNum) (e : AddrFields) : Statement (.setab a e) := (instrWord_fields _).symm
theorem xor (a : AcNum) (e : AddrFields) : Statement (.xor a e) := (instrWord_fields _).symm
theorem xori (a : AcNum) (e : AddrFields) : Statement (.xori a e) := (instrWord_fields _).symm
theorem xorm (a : AcNum) (e : AddrFields) : Statement (.xorm a e) := (instrWord_fields _).symm
theorem xorb (a : AcNum) (e : AddrFields) : Statement (.xorb a e) := (instrWord_fields _).symm
theorem ior (a : AcNum) (e : AddrFields) : Statement (.ior a e) := (instrWord_fields _).symm
theorem iori (a : AcNum) (e : AddrFields) : Statement (.iori a e) := (instrWord_fields _).symm
theorem iorm (a : AcNum) (e : AddrFields) : Statement (.iorm a e) := (instrWord_fields _).symm
theorem iorb (a : AcNum) (e : AddrFields) : Statement (.iorb a e) := (instrWord_fields _).symm
theorem andcb (a : AcNum) (e : AddrFields) : Statement (.andcb a e) := (instrWord_fields _).symm
theorem andcbi (a : AcNum) (e : AddrFields) : Statement (.andcbi a e) := (instrWord_fields _).symm
theorem andcbm (a : AcNum) (e : AddrFields) : Statement (.andcbm a e) := (instrWord_fields _).symm
theorem andcbb (a : AcNum) (e : AddrFields) : Statement (.andcbb a e) := (instrWord_fields _).symm
theorem eqv (a : AcNum) (e : AddrFields) : Statement (.eqv a e) := (instrWord_fields _).symm
theorem eqvi (a : AcNum) (e : AddrFields) : Statement (.eqvi a e) := (instrWord_fields _).symm
theorem eqvm (a : AcNum) (e : AddrFields) : Statement (.eqvm a e) := (instrWord_fields _).symm
theorem eqvb (a : AcNum) (e : AddrFields) : Statement (.eqvb a e) := (instrWord_fields _).symm
theorem setca (a : AcNum) (e : AddrFields) : Statement (.setca a e) := (instrWord_fields _).symm
theorem setcai (a : AcNum) (e : AddrFields) : Statement (.setcai a e) := (instrWord_fields _).symm
theorem setcam (a : AcNum) (e : AddrFields) : Statement (.setcam a e) := (instrWord_fields _).symm
theorem setcab (a : AcNum) (e : AddrFields) : Statement (.setcab a e) := (instrWord_fields _).symm
theorem orca (a : AcNum) (e : AddrFields) : Statement (.orca a e) := (instrWord_fields _).symm
theorem orcai (a : AcNum) (e : AddrFields) : Statement (.orcai a e) := (instrWord_fields _).symm
theorem orcam (a : AcNum) (e : AddrFields) : Statement (.orcam a e) := (instrWord_fields _).symm
theorem orcab (a : AcNum) (e : AddrFields) : Statement (.orcab a e) := (instrWord_fields _).symm
theorem setcm (a : AcNum) (e : AddrFields) : Statement (.setcm a e) := (instrWord_fields _).symm
theorem setcmi (a : AcNum) (e : AddrFields) : Statement (.setcmi a e) := (instrWord_fields _).symm
theorem setcmm (a : AcNum) (e : AddrFields) : Statement (.setcmm a e) := (instrWord_fields _).symm
theorem setcmb (a : AcNum) (e : AddrFields) : Statement (.setcmb a e) := (instrWord_fields _).symm
theorem orcm (a : AcNum) (e : AddrFields) : Statement (.orcm a e) := (instrWord_fields _).symm
theorem orcmi (a : AcNum) (e : AddrFields) : Statement (.orcmi a e) := (instrWord_fields _).symm
theorem orcmm (a : AcNum) (e : AddrFields) : Statement (.orcmm a e) := (instrWord_fields _).symm
theorem orcmb (a : AcNum) (e : AddrFields) : Statement (.orcmb a e) := (instrWord_fields _).symm
theorem orcb (a : AcNum) (e : AddrFields) : Statement (.orcb a e) := (instrWord_fields _).symm
theorem orcbi (a : AcNum) (e : AddrFields) : Statement (.orcbi a e) := (instrWord_fields _).symm
theorem orcbm (a : AcNum) (e : AddrFields) : Statement (.orcbm a e) := (instrWord_fields _).symm
theorem orcbb (a : AcNum) (e : AddrFields) : Statement (.orcbb a e) := (instrWord_fields _).symm
theorem seto (a : AcNum) (e : AddrFields) : Statement (.seto a e) := (instrWord_fields _).symm
theorem setoi (a : AcNum) (e : AddrFields) : Statement (.setoi a e) := (instrWord_fields _).symm
theorem setom (a : AcNum) (e : AddrFields) : Statement (.setom a e) := (instrWord_fields _).symm
theorem setob (a : AcNum) (e : AddrFields) : Statement (.setob a e) := (instrWord_fields _).symm
theorem hll (a : AcNum) (e : AddrFields) : Statement (.hll a e) := (instrWord_fields _).symm
theorem xhlli (a : AcNum) (e : AddrFields) : Statement (.xhlli a e) := (instrWord_fields _).symm
theorem hllm (a : AcNum) (e : AddrFields) : Statement (.hllm a e) := (instrWord_fields _).symm
theorem hlls (a : AcNum) (e : AddrFields) : Statement (.hlls a e) := (instrWord_fields _).symm
theorem hrl (a : AcNum) (e : AddrFields) : Statement (.hrl a e) := (instrWord_fields _).symm
theorem hrli (a : AcNum) (e : AddrFields) : Statement (.hrli a e) := (instrWord_fields _).symm
theorem hrlm (a : AcNum) (e : AddrFields) : Statement (.hrlm a e) := (instrWord_fields _).symm
theorem hrls (a : AcNum) (e : AddrFields) : Statement (.hrls a e) := (instrWord_fields _).symm
theorem hllz (a : AcNum) (e : AddrFields) : Statement (.hllz a e) := (instrWord_fields _).symm
theorem hllzi (a : AcNum) (e : AddrFields) : Statement (.hllzi a e) := (instrWord_fields _).symm
theorem hllzm (a : AcNum) (e : AddrFields) : Statement (.hllzm a e) := (instrWord_fields _).symm
theorem hllzs (a : AcNum) (e : AddrFields) : Statement (.hllzs a e) := (instrWord_fields _).symm
theorem hrlz (a : AcNum) (e : AddrFields) : Statement (.hrlz a e) := (instrWord_fields _).symm
theorem hrlzi (a : AcNum) (e : AddrFields) : Statement (.hrlzi a e) := (instrWord_fields _).symm
theorem hrlzm (a : AcNum) (e : AddrFields) : Statement (.hrlzm a e) := (instrWord_fields _).symm
theorem hrlzs (a : AcNum) (e : AddrFields) : Statement (.hrlzs a e) := (instrWord_fields _).symm
theorem hllo (a : AcNum) (e : AddrFields) : Statement (.hllo a e) := (instrWord_fields _).symm
theorem hlloi (a : AcNum) (e : AddrFields) : Statement (.hlloi a e) := (instrWord_fields _).symm
theorem hllom (a : AcNum) (e : AddrFields) : Statement (.hllom a e) := (instrWord_fields _).symm
theorem hllos (a : AcNum) (e : AddrFields) : Statement (.hllos a e) := (instrWord_fields _).symm
theorem hrlo (a : AcNum) (e : AddrFields) : Statement (.hrlo a e) := (instrWord_fields _).symm
theorem hrloi (a : AcNum) (e : AddrFields) : Statement (.hrloi a e) := (instrWord_fields _).symm
theorem hrlom (a : AcNum) (e : AddrFields) : Statement (.hrlom a e) := (instrWord_fields _).symm
theorem hrlos (a : AcNum) (e : AddrFields) : Statement (.hrlos a e) := (instrWord_fields _).symm
theorem hlle (a : AcNum) (e : AddrFields) : Statement (.hlle a e) := (instrWord_fields _).symm
theorem hllei (a : AcNum) (e : AddrFields) : Statement (.hllei a e) := (instrWord_fields _).symm
theorem hllem (a : AcNum) (e : AddrFields) : Statement (.hllem a e) := (instrWord_fields _).symm
theorem hlles (a : AcNum) (e : AddrFields) : Statement (.hlles a e) := (instrWord_fields _).symm
theorem hrle (a : AcNum) (e : AddrFields) : Statement (.hrle a e) := (instrWord_fields _).symm
theorem hrlei (a : AcNum) (e : AddrFields) : Statement (.hrlei a e) := (instrWord_fields _).symm
theorem hrlem (a : AcNum) (e : AddrFields) : Statement (.hrlem a e) := (instrWord_fields _).symm
theorem hrles (a : AcNum) (e : AddrFields) : Statement (.hrles a e) := (instrWord_fields _).symm
theorem hrr (a : AcNum) (e : AddrFields) : Statement (.hrr a e) := (instrWord_fields _).symm
theorem hrri (a : AcNum) (e : AddrFields) : Statement (.hrri a e) := (instrWord_fields _).symm
theorem hrrm (a : AcNum) (e : AddrFields) : Statement (.hrrm a e) := (instrWord_fields _).symm
theorem hrrs (a : AcNum) (e : AddrFields) : Statement (.hrrs a e) := (instrWord_fields _).symm
theorem hlr (a : AcNum) (e : AddrFields) : Statement (.hlr a e) := (instrWord_fields _).symm
theorem hlri (a : AcNum) (e : AddrFields) : Statement (.hlri a e) := (instrWord_fields _).symm
theorem hlrm (a : AcNum) (e : AddrFields) : Statement (.hlrm a e) := (instrWord_fields _).symm
theorem hlrs (a : AcNum) (e : AddrFields) : Statement (.hlrs a e) := (instrWord_fields _).symm
theorem hrrz (a : AcNum) (e : AddrFields) : Statement (.hrrz a e) := (instrWord_fields _).symm
theorem hrrzi (a : AcNum) (e : AddrFields) : Statement (.hrrzi a e) := (instrWord_fields _).symm
theorem hrrzm (a : AcNum) (e : AddrFields) : Statement (.hrrzm a e) := (instrWord_fields _).symm
theorem hrrzs (a : AcNum) (e : AddrFields) : Statement (.hrrzs a e) := (instrWord_fields _).symm
theorem hlrz (a : AcNum) (e : AddrFields) : Statement (.hlrz a e) := (instrWord_fields _).symm
theorem hlrzi (a : AcNum) (e : AddrFields) : Statement (.hlrzi a e) := (instrWord_fields _).symm
theorem hlrzm (a : AcNum) (e : AddrFields) : Statement (.hlrzm a e) := (instrWord_fields _).symm
theorem hlrzs (a : AcNum) (e : AddrFields) : Statement (.hlrzs a e) := (instrWord_fields _).symm
theorem hrro (a : AcNum) (e : AddrFields) : Statement (.hrro a e) := (instrWord_fields _).symm
theorem hrroi (a : AcNum) (e : AddrFields) : Statement (.hrroi a e) := (instrWord_fields _).symm
theorem hrrom (a : AcNum) (e : AddrFields) : Statement (.hrrom a e) := (instrWord_fields _).symm
theorem hrros (a : AcNum) (e : AddrFields) : Statement (.hrros a e) := (instrWord_fields _).symm
theorem hlro (a : AcNum) (e : AddrFields) : Statement (.hlro a e) := (instrWord_fields _).symm
theorem hlroi (a : AcNum) (e : AddrFields) : Statement (.hlroi a e) := (instrWord_fields _).symm
theorem hlrom (a : AcNum) (e : AddrFields) : Statement (.hlrom a e) := (instrWord_fields _).symm
theorem hlros (a : AcNum) (e : AddrFields) : Statement (.hlros a e) := (instrWord_fields _).symm
theorem hrre (a : AcNum) (e : AddrFields) : Statement (.hrre a e) := (instrWord_fields _).symm
theorem hrrei (a : AcNum) (e : AddrFields) : Statement (.hrrei a e) := (instrWord_fields _).symm
theorem hrrem (a : AcNum) (e : AddrFields) : Statement (.hrrem a e) := (instrWord_fields _).symm
theorem hrres (a : AcNum) (e : AddrFields) : Statement (.hrres a e) := (instrWord_fields _).symm
theorem hlre (a : AcNum) (e : AddrFields) : Statement (.hlre a e) := (instrWord_fields _).symm
theorem hlrei (a : AcNum) (e : AddrFields) : Statement (.hlrei a e) := (instrWord_fields _).symm
theorem hlrem (a : AcNum) (e : AddrFields) : Statement (.hlrem a e) := (instrWord_fields _).symm
theorem hlres (a : AcNum) (e : AddrFields) : Statement (.hlres a e) := (instrWord_fields _).symm
theorem trn (a : AcNum) (e : AddrFields) : Statement (.trn a e) := (instrWord_fields _).symm
theorem tln (a : AcNum) (e : AddrFields) : Statement (.tln a e) := (instrWord_fields _).symm
theorem trne (a : AcNum) (e : AddrFields) : Statement (.trne a e) := (instrWord_fields _).symm
theorem tlne (a : AcNum) (e : AddrFields) : Statement (.tlne a e) := (instrWord_fields _).symm
theorem trna (a : AcNum) (e : AddrFields) : Statement (.trna a e) := (instrWord_fields _).symm
theorem tlna (a : AcNum) (e : AddrFields) : Statement (.tlna a e) := (instrWord_fields _).symm
theorem trnn (a : AcNum) (e : AddrFields) : Statement (.trnn a e) := (instrWord_fields _).symm
theorem tlnn (a : AcNum) (e : AddrFields) : Statement (.tlnn a e) := (instrWord_fields _).symm
theorem tdn (a : AcNum) (e : AddrFields) : Statement (.tdn a e) := (instrWord_fields _).symm
theorem tsn (a : AcNum) (e : AddrFields) : Statement (.tsn a e) := (instrWord_fields _).symm
theorem tdne (a : AcNum) (e : AddrFields) : Statement (.tdne a e) := (instrWord_fields _).symm
theorem tsne (a : AcNum) (e : AddrFields) : Statement (.tsne a e) := (instrWord_fields _).symm
theorem tdna (a : AcNum) (e : AddrFields) : Statement (.tdna a e) := (instrWord_fields _).symm
theorem tsna (a : AcNum) (e : AddrFields) : Statement (.tsna a e) := (instrWord_fields _).symm
theorem tdnn (a : AcNum) (e : AddrFields) : Statement (.tdnn a e) := (instrWord_fields _).symm
theorem tsnn (a : AcNum) (e : AddrFields) : Statement (.tsnn a e) := (instrWord_fields _).symm
theorem trz (a : AcNum) (e : AddrFields) : Statement (.trz a e) := (instrWord_fields _).symm
theorem tlz (a : AcNum) (e : AddrFields) : Statement (.tlz a e) := (instrWord_fields _).symm
theorem trze (a : AcNum) (e : AddrFields) : Statement (.trze a e) := (instrWord_fields _).symm
theorem tlze (a : AcNum) (e : AddrFields) : Statement (.tlze a e) := (instrWord_fields _).symm
theorem trza (a : AcNum) (e : AddrFields) : Statement (.trza a e) := (instrWord_fields _).symm
theorem tlza (a : AcNum) (e : AddrFields) : Statement (.tlza a e) := (instrWord_fields _).symm
theorem trzn (a : AcNum) (e : AddrFields) : Statement (.trzn a e) := (instrWord_fields _).symm
theorem tlzn (a : AcNum) (e : AddrFields) : Statement (.tlzn a e) := (instrWord_fields _).symm
theorem tdz (a : AcNum) (e : AddrFields) : Statement (.tdz a e) := (instrWord_fields _).symm
theorem tsz (a : AcNum) (e : AddrFields) : Statement (.tsz a e) := (instrWord_fields _).symm
theorem tdze (a : AcNum) (e : AddrFields) : Statement (.tdze a e) := (instrWord_fields _).symm
theorem tsze (a : AcNum) (e : AddrFields) : Statement (.tsze a e) := (instrWord_fields _).symm
theorem tdza (a : AcNum) (e : AddrFields) : Statement (.tdza a e) := (instrWord_fields _).symm
theorem tsza (a : AcNum) (e : AddrFields) : Statement (.tsza a e) := (instrWord_fields _).symm
theorem tdzn (a : AcNum) (e : AddrFields) : Statement (.tdzn a e) := (instrWord_fields _).symm
theorem tszn (a : AcNum) (e : AddrFields) : Statement (.tszn a e) := (instrWord_fields _).symm
theorem trc (a : AcNum) (e : AddrFields) : Statement (.trc a e) := (instrWord_fields _).symm
theorem tlc (a : AcNum) (e : AddrFields) : Statement (.tlc a e) := (instrWord_fields _).symm
theorem trce (a : AcNum) (e : AddrFields) : Statement (.trce a e) := (instrWord_fields _).symm
theorem tlce (a : AcNum) (e : AddrFields) : Statement (.tlce a e) := (instrWord_fields _).symm
theorem trca (a : AcNum) (e : AddrFields) : Statement (.trca a e) := (instrWord_fields _).symm
theorem tlca (a : AcNum) (e : AddrFields) : Statement (.tlca a e) := (instrWord_fields _).symm
theorem trcn (a : AcNum) (e : AddrFields) : Statement (.trcn a e) := (instrWord_fields _).symm
theorem tlcn (a : AcNum) (e : AddrFields) : Statement (.tlcn a e) := (instrWord_fields _).symm
theorem tdc (a : AcNum) (e : AddrFields) : Statement (.tdc a e) := (instrWord_fields _).symm
theorem tsc (a : AcNum) (e : AddrFields) : Statement (.tsc a e) := (instrWord_fields _).symm
theorem tdce (a : AcNum) (e : AddrFields) : Statement (.tdce a e) := (instrWord_fields _).symm
theorem tsce (a : AcNum) (e : AddrFields) : Statement (.tsce a e) := (instrWord_fields _).symm
theorem tdca (a : AcNum) (e : AddrFields) : Statement (.tdca a e) := (instrWord_fields _).symm
theorem tsca (a : AcNum) (e : AddrFields) : Statement (.tsca a e) := (instrWord_fields _).symm
theorem tdcn (a : AcNum) (e : AddrFields) : Statement (.tdcn a e) := (instrWord_fields _).symm
theorem tscn (a : AcNum) (e : AddrFields) : Statement (.tscn a e) := (instrWord_fields _).symm
theorem tro (a : AcNum) (e : AddrFields) : Statement (.tro a e) := (instrWord_fields _).symm
theorem tlo (a : AcNum) (e : AddrFields) : Statement (.tlo a e) := (instrWord_fields _).symm
theorem troe (a : AcNum) (e : AddrFields) : Statement (.troe a e) := (instrWord_fields _).symm
theorem tloe (a : AcNum) (e : AddrFields) : Statement (.tloe a e) := (instrWord_fields _).symm
theorem troa (a : AcNum) (e : AddrFields) : Statement (.troa a e) := (instrWord_fields _).symm
theorem tloa (a : AcNum) (e : AddrFields) : Statement (.tloa a e) := (instrWord_fields _).symm
theorem tron (a : AcNum) (e : AddrFields) : Statement (.tron a e) := (instrWord_fields _).symm
theorem tlon (a : AcNum) (e : AddrFields) : Statement (.tlon a e) := (instrWord_fields _).symm
theorem tdo (a : AcNum) (e : AddrFields) : Statement (.tdo a e) := (instrWord_fields _).symm
theorem tso (a : AcNum) (e : AddrFields) : Statement (.tso a e) := (instrWord_fields _).symm
theorem tdoe (a : AcNum) (e : AddrFields) : Statement (.tdoe a e) := (instrWord_fields _).symm
theorem tsoe (a : AcNum) (e : AddrFields) : Statement (.tsoe a e) := (instrWord_fields _).symm
theorem tdoa (a : AcNum) (e : AddrFields) : Statement (.tdoa a e) := (instrWord_fields _).symm
theorem tsoa (a : AcNum) (e : AddrFields) : Statement (.tsoa a e) := (instrWord_fields _).symm
theorem tdon (a : AcNum) (e : AddrFields) : Statement (.tdon a e) := (instrWord_fields _).symm
theorem tson (a : AcNum) (e : AddrFields) : Statement (.tson a e) := (instrWord_fields _).symm
theorem io (r : BitVec 33) : Statement (.io r) := (instrWord_fields _).symm
theorem cmpsl (a : AcNum) (e0 : EA) (z : BitVec 4) (e : AddrFields) : Statement (.cmpsl a e0 z e) := (instrWord_fields _).symm
theorem cmpse (a : AcNum) (e0 : EA) (z : BitVec 4) (e : AddrFields) : Statement (.cmpse a e0 z e) := (instrWord_fields _).symm
theorem cmpsle (a : AcNum) (e0 : EA) (z : BitVec 4) (e : AddrFields) : Statement (.cmpsle a e0 z e) := (instrWord_fields _).symm
theorem edit (a : AcNum) (e0 : EA) (z : BitVec 4) (e : AddrFields) : Statement (.edit a e0 z e) := (instrWord_fields _).symm
theorem cmpsge (a : AcNum) (e0 : EA) (z : BitVec 4) (e : AddrFields) : Statement (.cmpsge a e0 z e) := (instrWord_fields _).symm
theorem cmpsn (a : AcNum) (e0 : EA) (z : BitVec 4) (e : AddrFields) : Statement (.cmpsn a e0 z e) := (instrWord_fields _).symm
theorem cmpsg (a : AcNum) (e0 : EA) (z : BitVec 4) (e : AddrFields) : Statement (.cmpsg a e0 z e) := (instrWord_fields _).symm
theorem cvtdbo (a : AcNum) (e0 : EA) (z : BitVec 4) (e : AddrFields) : Statement (.cvtdbo a e0 z e) := (instrWord_fields _).symm
theorem cvtdbt (a : AcNum) (e0 : EA) (z : BitVec 4) (e : AddrFields) : Statement (.cvtdbt a e0 z e) := (instrWord_fields _).symm
theorem cvtbdo (a : AcNum) (e0 : EA) (z : BitVec 4) (e : AddrFields) : Statement (.cvtbdo a e0 z e) := (instrWord_fields _).symm
theorem cvtbdt (a : AcNum) (e0 : EA) (z : BitVec 4) (e : AddrFields) : Statement (.cvtbdt a e0 z e) := (instrWord_fields _).symm
theorem movso (a : AcNum) (e0 : EA) (z : BitVec 4) (e : AddrFields) : Statement (.movso a e0 z e) := (instrWord_fields _).symm
theorem movst (a : AcNum) (e0 : EA) (z : BitVec 4) (e : AddrFields) : Statement (.movst a e0 z e) := (instrWord_fields _).symm
theorem movslj (a : AcNum) (e0 : EA) (z : BitVec 4) (e : AddrFields) : Statement (.movslj a e0 z e) := (instrWord_fields _).symm
theorem movsrj (a : AcNum) (e0 : EA) (z : BitVec 4) (e : AddrFields) : Statement (.movsrj a e0 z e) := (instrWord_fields _).symm
theorem xblt (a : AcNum) (e0 : EA) (z : BitVec 4) (e : AddrFields) : Statement (.xblt a e0 z e) := (instrWord_fields _).symm

end Sys2Proof.Laws.Encoding
end

