-- ==== Sys2Proof/Laws/Run.lean ====
section
/-! SUPPORT. What an instruction in progress can do, said once: it reaches every machine it reaches by the changes of `Mach.Act`, and
it ends in one of the ways of `Mach.Done`. The invariants of a step follow from this and not from the 450 meanings. -/

namespace Sys2Proof.Machine

/-- One change an instruction can make before it ends: a word stored through a reference, an AC of the current block written, a
free value drawn, the word being executed replaced under XCT, a word stored in an LUUO block that is addressed in a fixed space or
physically, the block that the state `s0` at the start of the instruction addresses. -/
inductive Mach.Act (s0 : State) : Mach → Mach → Prop
  /-- a word stored through a reference that was admitted -/
  | write {m : Mach} {e : EA} {c : Ctx} {l : Loc} (v : Word) : m.st.locate e c .write = .ok l →
      (c = .prev → m.st.mode = .exec) → Act s0 m (m.put l v)
  /-- an AC of the current block -/
  | setX (m : Mach) (n : AcNum) (v : Word) : Act s0 m (m.setX n v)
  /-- a free value drawn -/
  | drawn (m : Mach) : Act s0 m m.drawn
  /-- another word executed -/
  | word (m : Mach) (w : Option Word) : Act s0 m { m with iw := w }
  /-- a word of the LUUO block, where it is not addressed in the current context -/
  | block (m : Mach) {lb : LuuoLayout} {sp : Option Space} {w : TrapWord} {l : Loc} (v : Word) :
      s0.cfg.traps.luuoBlock = some lb → lb.addressing = .placed sp → w ∈ lb.words →
      s0.blockPlace sp (s0.luuoPointer lb) w.number .write = some l → Act s0 m (m.put l v)

/-- Any number of such changes, in an instruction that starts at the first machine. -/
abbrev Mach.Acts (m0 m : Mach) : Prop := Relation.ReflTransGen (Mach.Act m0.st) m0 m

/-- What ends an instruction after those changes: a PC, and flags that are either the old ones but for the arithmetic flags, with
the mode kept, or restored by a jump, with the mode they give. -/
inductive Mach.Done (m0 : Mach) : Mach → Prop
  /-- a data step, a jump or nothing changed the flags -/
  | flags {m : Mach} (g : Flags) (a : Addr) : Mach.Acts m0 m →
      Done m0 { m with st := { m.st with flags := mergeFlags m.st.flags g, pc := a } }
  /-- a jump changed the PC only -/
  | pc {m : Mach} (a : Addr) : Mach.Acts m0 m → Done m0 { m with st := { m.st with pc := a } }
  /-- a jump restored the flags -/
  | restore {m : Mach} (g : Flags) (a : Addr) : Mach.Acts m0 m → Done m0 (m.restore g a)

/-- Part of an instruction, begun after `m0`: where it gives a value, the machine `out` finds in it was reached from `m0`; where
it ends in an event, that machine was. -/
def Run.Via {α : Type} (m0 : Mach) (out : α → Mach) : Run α → Prop
  | .ok x => Mach.Acts m0 (out x)
  | .error (.trap _ m) => Mach.Acts m0 m
  | _ => True

/-- The rest of an instruction begun after `m0`. -/
def Run.Ends (m0 : Mach) : Run Mach → Prop
  | .ok m => Mach.Done m0 m
  | .error (.trap _ m) => Mach.Acts m0 m
  | _ => True

/-- How a word comes to be executed in an instruction that started at `m0`: under a PXCT only in exec mode (R440), and, where PC section
is not zero, before anything is stored (only the LUUO of section zero stores a word and then executes another, R342). -/
structure Frame.Fits (f : Frame) (m0 m : Mach) : Prop where
  /-- a PXCT only in exec mode -/
  exec : f.px ≠ none → m0.st.mode = .exec
  /-- outside section zero nothing is stored before the word is executed -/
  mem : m0.st.pcSec ≠ 0 → m.st.mem = m0.st.mem

/-- A meaning does only what `Mach.Act` and `Mach.Done` allow. -/
def Body.Sound (b : Body) : Prop := ∀ (f : Frame) (m0 m : Mach), f.Fits m0 m → Mach.Acts m0 m → Run.Ends m0 (b f m)

/-! ## What the changes leave alone -/

/-- The changes leave alone everything but the ACs, memory and the counter of free values. -/
theorem Mach.Acts.fixed {m0 m : Mach} (h : Mach.Acts m0 m) :
    m.st.mode = m0.st.mode ∧ m.st.flags = m0.st.flags ∧ m.st.pc = m0.st.pc ∧ m.st.cab = m0.st.cab ∧ m.st.pab = m0.st.pab ∧
      m.st.pcs = m0.st.pcs ∧ m.st.pcu = m0.st.pcu ∧ m.st.upt = m0.st.upt ∧ m.st.ept = m0.st.ept ∧ m.st.cfg = m0.st.cfg := by
  induction h with
  | refl => simp
  | tail _ h ih => cases h <;> simpa [Mach.put, Mach.setX, Mach.drawn] using ih

theorem Mach.Acts.mode {m0 m : Mach} (h : Mach.Acts m0 m) : m.st.mode = m0.st.mode := h.fixed.1

theorem Mach.Acts.cfg {m0 m : Mach} (h : Mach.Acts m0 m) : m.st.cfg = m0.st.cfg := h.fixed.2.2.2.2.2.2.2.2.2

/-- The changes keep memory canonical. -/
theorem Mach.Acts.wf {m0 m : Mach} (h : Mach.Acts m0 m) (h0 : Memory.wf m0.st.mem = true) : Memory.wf m.st.mem = true := by
  induction h with
  | refl => exact h0
  | tail _ h ih =>
    cases h with
    | write v _ _ => exact State.put_wf ih _ _
    | block v _ _ _ _ => exact State.put_wf ih _ _
    | _ => exact ih

/-- The free-value counter never goes back. -/
theorem Mach.Acts.freeCtr {m0 m : Mach} (h : Mach.Acts m0 m) : m0.st.freeCtr ≤ m.st.freeCtr := by
  induction h with
  | refl => exact Nat.le_refl _
  | tail _ h ih => cases h <;> (simp_all [Mach.put, Mach.setX, Mach.drawn]; try omega)

/-! ## Sequencing -/

theorem Run.Via.bind {α β : Type} {m0 : Mach} {out : α → Mach} {out' : β → Mach} {r : Run α} {k : α → Run β}
    (h : Run.Via m0 out r) (hk : ∀ x, Mach.Acts m0 (out x) → Run.Via m0 out' (k x)) : Run.Via m0 out' (r >>= k) := by
  cases r with
  | ok x => exact hk x h
  | error e => cases e <;> exact h

theorem Run.Via.seq {α : Type} {m0 : Mach} {out : α → Mach} {r : Run α} {k : α → Run Mach}
    (h : Run.Via m0 out r) (hk : ∀ x, Mach.Acts m0 (out x) → Run.Ends m0 (k x)) : Run.Ends m0 (r >>= k) := by
  cases r with
  | ok x => exact hk x h
  | error e => cases e <;> exact h

theorem Run.Via.pure {α : Type} {m0 : Mach} {out : α → Mach} {x : α} (h : Mach.Acts m0 (out x)) :
    Run.Via m0 out (pure x) := h

theorem Run.Via.ok {α : Type} {m0 : Mach} {out : α → Mach} {x : α} (h : Mach.Acts m0 (out x)) :
    Run.Via m0 out (.ok x) := h

theorem Run.Via.refuse {α : Type} {m0 : Mach} {out : α → Mach} (r : Refusal) : Run.Via m0 out (Machine.refuse r : Run α) :=
  trivial

theorem Run.Ends.refuse {m0 : Mach} (r : Refusal) : Run.Ends m0 (Machine.refuse r) := trivial

theorem Run.Ends.trap {m0 m : Mach} (h : Mach.Acts m0 m) (t : Trap) : Run.Ends m0 (.error (.trap t m)) := h

/-! ## The named operations -/

theorem Mach.Acts.setX {m0 m : Mach} (h : Mach.Acts m0 m) (n : AcNum) (v : Word) : Mach.Acts m0 (m.setX n v) :=
  h.tail (.setX m n v)

theorem Mach.Acts.drawn {m0 m : Mach} (h : Mach.Acts m0 m) : Mach.Acts m0 m.drawn := h.tail (.drawn m)

theorem Mach.Acts.setFree {m0 m : Mach} (h : Mach.Acts m0 m) (n : AcNum) : Mach.Acts m0 (m.setFree n) :=
  (h.setX n _).drawn

theorem Mach.Acts.word {m0 m : Mach} (h : Mach.Acts m0 m) (w : Option Word) : Mach.Acts m0 { m with iw := w } :=
  h.tail (.word m w)

theorem Mach.locate_via {m0 m : Mach} (h : Mach.Acts m0 m) (e : EA) (c : Ctx) (acc : Access) :
    Run.Via m0 (fun _ => m) (m.locate e c acc) := by
  unfold Mach.locate
  cases m.st.locate e c acc <;> exact h

theorem Mach.read_via {m0 m : Mach} (h : Mach.Acts m0 m) (e : EA) (c : Ctx) : Run.Via m0 (fun _ => m) (m.read e c) :=
  (Mach.locate_via h e c .read).bind fun _ h => .pure h

/-- A reference that `Mach.locate` admits is one `State.locate` admits. -/
theorem Mach.locate_eq_ok {m : Mach} {e : EA} {c : Ctx} {acc : Access} {l : Loc} :
    m.locate e c acc = .ok l ↔ m.st.locate e c acc = .ok l := by
  unfold Mach.locate
  cases m.st.locate e c acc <;> simp

theorem Mach.update_via {m0 m : Mach} (h : Mach.Acts m0 m) (e : EA) {c : Ctx} (hc : c = .prev → m0.st.mode = .exec)
    (g : Word → Word) : Run.Via m0 id (m.update e c g) := by
  unfold Mach.update Mach.locate
  cases hl : m.st.locate e c .write with
  | error pf => exact h
  | ok l => exact h.tail (.write _ hl fun hp => h.mode.trans (hc hp))

theorem Mach.write_via {m0 m : Mach} (h : Mach.Acts m0 m) (e : EA) {c : Ctx} (hc : c = .prev → m0.st.mode = .exec)
    (v : Word) : Run.Via m0 id (m.write e c v) :=
  Mach.update_via h e hc fun _ => v

/-- The same for a place already located. -/
theorem Mach.put_acts {m0 m : Mach} (h : Mach.Acts m0 m) {e : EA} {c : Ctx} (hc : c = .prev → m0.st.mode = .exec) {l : Loc}
    (hl : m.st.locate e c .write = .ok l) (v : Word) : Mach.Acts m0 (m.put l v) :=
  h.tail (.write v hl fun hp => h.mode.trans (hc hp))

theorem Mach.ea_via {α : Type} {m0 m : Mach} (h : Mach.Acts m0 m) (r : Except EaStop α) :
    Run.Via m0 (fun _ => m) (m.ea r) := by
  unfold Mach.ea
  split <;> first | exact h | trivial

theorem Frame.guard_via {m0 m : Mach} (h : Mach.Acts m0 m) (f : Frame) (k : PxClass) :
    Run.Via m0 (fun _ => m) (f.guard k) := by
  unfold Frame.guard
  split
  · exact h
  · split
    · trivial
    · split <;> first | exact h | trivial

theorem instrEa_via {m0 m : Mach} (h : Mach.Acts m0 m) (k : PxClass) (e : AddrFields) (f : Frame) :
    Run.Via m0 (fun _ => m) (instrEa k e f m) :=
  (Frame.guard_via h f k).bind fun _ _ => Mach.ea_via h _

theorem bpFields_via {m0 m : Mach} (h : Mach.Acts m0 m) (g : Config) (k : BpKind) (w : Word) :
    Run.Via m0 (fun _ => m) (bpFields g k w) := by
  unfold bpFields
  split
  · split <;> first | exact h | trivial
  · exact h

theorem incBP_via {m0 m : Mach} (h : Mach.Acts m0 m) (g : Config) (k : BpKind) (w1 w2 : Word) :
    Run.Via m0 (fun _ => m) (incBP g k w1 w2) := by
  unfold incBP incStandard
  split
  · refine (bpFields_via h g k w1).bind fun ps _ => ?_
    split
    split
    split
    · exact h
    · exact h
    · dsimp only
      cases owgbpEncode g.owgbp _ _ with
      | some code => exact h
      | none => trivial
  · exact h

theorem bpAddress_via {m0 m : Mach} (h : Mach.Acts m0 m) (k : BpKind) (w1 w2 : Word) (s : Sec) (e : EA) (c : Ctx)
    (eb db : Bool) : Run.Via m0 (fun _ => m) (bpAddress m k w1 w2 s e c eb db) := by
  unfold bpAddress
  split
  · exact Mach.ea_via h _
  · exact h
  · split
    · exact Mach.ea_via h _
    · exact h

theorem stackCheck_via {m0 m : Mach} (h : Mach.Acts m0 m) (g : Bool) (sp : Word) (limit : Half) :
    Run.Via m0 (fun _ => m) (stackCheck m g sp limit) := by
  unfold stackCheck
  split <;> first | exact h | trivial

theorem Mach.ruling_via {m0 m : Mach} (h : Mach.Acts m0 m) (here : Bool) (r : Refusal) :
    Run.Via m0 (fun _ => m) (m.ruling here r) := by
  unfold Mach.ruling
  split <;> first | exact h | trivial

theorem Mach.incRef_via {m0 m : Mach} (h : Mach.Acts m0 m) (e : EA) : Run.Via m0 (fun _ => m) (m.incRef e) :=
  (Mach.ruling_via h _ _).bind fun _ h => .pure h

/-! ## Ends -/

theorem Run.Ends.setPc {m0 m : Mach} (h : Mach.Acts m0 m) (a : Addr) : Run.Ends m0 (Pure.pure (m.setPc a)) := Mach.Done.pc a h

theorem Run.Ends.advance {m0 m : Mach} (h : Mach.Acts m0 m) (k : Half) : Run.Ends m0 (Pure.pure (m.advance k)) := Mach.Done.pc _ h

theorem Run.Ends.skipIf {m0 m : Mach} (h : Mach.Acts m0 m) (b : Bool) : Run.Ends m0 (Pure.pure (m.skipIf b)) := Mach.Done.pc _ h

theorem Run.Ends.restore {m0 m : Mach} (h : Mach.Acts m0 m) (g : Flags) (a : Addr) :
    Run.Ends m0 (Pure.pure (m.restore g a)) := Mach.Done.restore g a h

theorem Run.Ends.flagsPc {m0 m : Mach} (h : Mach.Acts m0 m) (g : Flags) (a : Addr) :
    Run.Ends m0 (Pure.pure ((m.setFlags (mergeFlags m.st.flags g)).setPc a)) := Mach.Done.flags g a h

/-- The context of a reference is the previous one only under a PXCT. -/
theorem Frame.Fits.prev {f : Frame} {m m' : Mach} (h : f.Fits m m') {b : Px → Bool} (hb : b ⟨false, false, false, false⟩ = false) :
    ctxOf (b f.bits) = .prev → m.st.mode = .exec := by
  intro hc
  refine h.exec fun hn => ?_
  rw [Frame.bits, hn] at hc
  simp [ctxOf, hb] at hc

theorem Frame.Fits.data {f : Frame} {m m' : Mach} (h : f.Fits m m') : f.dataCtx = .prev → m.st.mode = .exec :=
  h.prev (b := Px.d1) rfl

theorem Frame.Fits.second {f : Frame} {m m' : Mach} (h : f.Fits m m') : ctxOf f.bits.d2 = .prev → m.st.mode = .exec :=
  h.prev (b := Px.d2) rfl

theorem cur_prev {m : Mach} : Ctx.cur = Ctx.prev → m.st.mode = .exec := fun h => nomatch h

/-- From a sound meaning to the step: a next state, or an event of a machine reached by `Mach.Act`. -/
theorem runTop_next {iw : Word} {b : Body} {s t : State} (hb : b.Sound) (h : runTop iw b s = .next t) :
    (∃ m, Mach.Done (.start s (some iw)) m ∧ t = m.st) ∨
      (∃ m tr, Mach.Acts (.start s (some iw)) m ∧ takeTrap tr m = .next t) := by
  have hs := hb s.top (.start s (some iw)) (.start s (some iw)) ⟨fun h => absurd rfl h, fun _ => rfl⟩ .refl
  unfold runTop at h
  cases hr : b s.top (.start s (some iw)) with
  | ok m =>
    rw [hr] at h hs
    exact .inl ⟨m, hs, by simpa using h.symm⟩
  | error e =>
    rw [hr] at h hs
    cases e with
    | trap tr m => exact .inr ⟨m, tr, hs, h⟩
    | fault f => simp at h
    | refused r => simp at h

end Sys2Proof.Machine
end

