-- ==== Sys2Proof/Laws/Sound.lean ====
section
/-! SUPPORT. Every meaning is sound: it does only what `Mach.Act` and `Mach.Done` allow (`bodyOf_sound`). -/

namespace Sys2Proof.Machine

/-! ## The data step -/

theorem readWords_via {m0 m : Mach} (h : Mach.Acts m0 m) (c : Ctx) (n : Nat) :
    ∀ e, Run.Via m0 (fun _ => m) (readWords m c n e) := by
  induction n with
  | zero => exact fun _ => h
  | succ n ih => exact fun e => (Mach.read_via h e c).bind fun _ h => (Mach.ruling_via h _ _).bind fun _ _ =>
      (ih (inc e)).bind fun _ h => .pure h

theorem writeResults_via {m0 : Mach} (op : Nat) (args : List Word) {c : Ctx} (hc : c = .prev → m0.st.mode = .exec) (n : Nat) :
    ∀ (k : Nat) (e : EA) (m : Mach), Mach.Acts m0 m → Run.Via m0 id (writeResults op args c k n e m) := by
  induction n with
  | zero => exact fun _ _ _ h => h
  | succ n ih => exact fun k e m h => (Mach.update_via h e hc _).bind fun m h =>
      (Mach.ruling_via (m := m) h _ _).bind fun _ h => ih (k + 1) (inc e) m h

theorem setResults_acts {m0 : Mach} (op : Nat) (args : List Word) (a : AcNum) (ds : List AcNum) :
    ∀ m, Mach.Acts m0 m → Mach.Acts m0 (setResults op args a ds m) := by
  induction ds with
  | nil => exact fun _ h => h
  | cons d t ih => exact fun m h => ih _ (h.setX _ _)

theorem dataOperands_via {m0 m : Mach} (h : Mach.Acts m0 m) (sh : DataShape) (a : AcNum) (ea : EA) (c : Ctx) :
    Run.Via m0 (fun _ => m) (dataOperands sh a ea c m) := by
  unfold dataOperands
  split
  · exact h
  · exact h
  · exact (readWords_via h c _ ea).bind fun _ h => .pure h
  · exact (readWords_via h c _ ea).bind fun _ h => .pure h

theorem dataOp_sound (op : Nat) (sh : DataShape) (a : AcNum) (e : AddrFields) : (dataOp op sh a e).Sound := by
  intro f m0 m hf h
  unfold dataOp
  refine (instrEa_via h _ e f).seq fun ea h => ?_
  refine (dataOperands_via h sh a ea _).seq fun args h => ?_
  have key : ∀ m, Mach.Acts m0 m → Run.Ends m0 (pure ((Mach.dataFlags (if (sh.unlessAc0 && a == 0) = true then m else
      setResults op args a sh.outs m) op args).skipIf (sh.skips && Config.dataCond op args))) := by
    intro m h
    refine Mach.Done.flags (Config.dataFlags op args) _ (m := if (sh.unlessAc0 && a == 0) = true then m else _) ?_
    split
    · exact h
    · exact setResults_acts op args a sh.outs m h
  have hw : ∀ n, Run.Ends m0 (writeResults op args f.dataCtx 0 n ea m >>= fun m => pure ((Mach.dataFlags
      (if (sh.unlessAc0 && a == 0) = true then m else setResults op args a sh.outs m) op args).skipIf
      (sh.skips && Config.dataCond op args))) := fun n =>
    (writeResults_via op args hf.data n 0 ea m h).seq fun m h => key m h
  generalize sh.use = u
  cases u
  · exact key m h
  · exact key m h
  · exact hw _
  · exact hw _

theorem jumpOp_sound (op : Nat) (outs : List AcNum) (a : AcNum) (e : AddrFields) : (jumpOp op outs a e).Sound := by
  intro f m0 m hf h
  refine (instrEa_via h _ e f).seq fun ea h => ?_
  have hs := setResults_acts op [m.x a] a outs m h
  dsimp only
  split
  · exact Mach.Done.flags (Config.dataFlags op [m.x a]) _ hs
  · exact Mach.Done.flags (Config.dataFlags op [m.x a]) _ hs

theorem flagJumpOp_sound (op : Nat) (a : AcNum) (e : AddrFields) : (flagJumpOp op a e).Sound := by
  intro f m0 m hf h
  refine (instrEa_via h _ e f).seq fun ea h => ?_
  dsimp only
  split
  · exact Mach.Done.flags (Config.dataFlags op [m.st.flags.setWidth 36, a.setWidth 36]) _ h
  · exact Mach.Done.flags (Config.dataFlags op [m.st.flags.setWidth 36, a.setWidth 36]) _ h

/-! ## The instructions whose data step a rule gives -/

theorem bodyMove_sound (a : AcNum) (e : AddrFields) : (bodyMove a e).Sound := fun f _ _ _ h =>
  (instrEa_via h _ e f).seq fun ea h => (Mach.read_via h ea _).seq fun _ h => .advance (h.setX _ _) 1

theorem bodyMovei_sound (a : AcNum) (e : AddrFields) : (bodyMovei a e).Sound := fun f _ _ _ h =>
  (instrEa_via h _ e f).seq fun _ h => .advance (h.setX _ _) 1

theorem bodyMovem_sound (a : AcNum) (e : AddrFields) : (bodyMovem a e).Sound := fun f _ _ hf h =>
  (instrEa_via h _ e f).seq fun ea h => (Mach.write_via h ea hf.data _).seq fun _ h => .advance h 1

theorem bodyDmove_sound (a : AcNum) (e : AddrFields) : (bodyDmove a e).Sound := fun f _ _ _ h =>
  (instrEa_via h _ e f).seq fun ea h => (Mach.read_via h ea _).seq fun _ h => (Mach.incRef_via (h.setX a _) ea).seq fun e2 h =>
    (Mach.read_via h e2 _).seq fun _ h => .advance (h.setX _ _) 1

theorem bodyDmovem_sound (a : AcNum) (e : AddrFields) : (bodyDmovem a e).Sound := fun f _ _ hf h =>
  (instrEa_via h _ e f).seq fun ea h => (Mach.write_via h ea hf.data _).seq fun _ h =>
    (Mach.incRef_via h ea).seq fun e2 h => (Mach.write_via h e2 hf.data _).seq fun _ h => .advance h 1

theorem bodySetzb_sound (a : AcNum) (e : AddrFields) : (bodySetzb a e).Sound := fun f _ _ hf h =>
  (instrEa_via h _ e f).seq fun ea h => (Mach.write_via h ea hf.data _).seq fun _ h => .advance (h.setX _ _) 1

theorem bodySkipa_sound (a : AcNum) (e : AddrFields) : (bodySkipa a e).Sound := fun f _ _ _ h =>
  (instrEa_via h _ e f).seq fun ea h => (Mach.read_via h ea _).seq fun v h => by
    refine Mach.Done.pc _ (m := if a = 0 then _ else _) ?_
    split
    · exact h
    · exact h.setX a v

theorem bodyExch_sound (a : AcNum) (e : AddrFields) : (bodyExch a e).Sound := fun f _ _ hf h =>
  (instrEa_via h _ e f).seq fun ea h => (Mach.read_via h ea _).seq fun _ h =>
    (Mach.write_via h ea hf.data _).seq fun _ h => .advance (h.setX _ _) 1

theorem bodyXmovei_sound (a : AcNum) (e : AddrFields) : (bodyXmovei a e).Sound := fun f _ _ _ h =>
  (instrEa_via h _ e f).seq fun _ h => .advance (h.setX _ _) 1

theorem bodyXhlli_sound (a : AcNum) (e : AddrFields) : (bodyXhlli a e).Sound := fun f _ _ _ h =>
  (instrEa_via h _ e f).seq fun _ h => .advance (h.setX _ _) 1

theorem bodyMap_sound (a : AcNum) (e : AddrFields) : (bodyMap a e).Sound := fun f _ _ _ h =>
  (instrEa_via h _ e f).seq fun _ h => .advance (h.setX a _).drawn 1

/-! ## Bytes -/

theorem fetchPointer_via {m0 m : Mach} (h : Mach.Acts m0 m) (e : AddrFields) (f : Frame) :
    Run.Via m0 (fun _ => m) (fetchPointer e f m) := by
  refine (instrEa_via h _ e f).bind fun ea h => (Mach.read_via h ea _).bind fun w1 h => ?_
  dsimp only
  split
  · exact (Mach.incRef_via h ea).bind fun e2 h => (Mach.read_via h e2 _).bind fun _ h => .pure h
  · exact h

theorem byteAddress_via {m0 m : Mach} (h : Mach.Acts m0 m) (p : FetchedPtr) (f : Frame) :
    Run.Via m0 (fun _ => m) (byteAddress p f m) := bpAddress_via h ..

theorem stepPointer_via {m0 m m' : Mach} (h : Mach.Acts m0 m) (p : FetchedPtr) {f : Frame} (hf : f.Fits m0 m') :
    Run.Via m0 Prod.snd (stepPointer p f m) := by
  refine (incBP_via h _ _ _ _).bind fun w h => ?_
  obtain ⟨w1, w2⟩ := w
  refine (Mach.write_via h p.ea hf.data w1).bind fun m h => ?_
  dsimp only
  split
  · exact (Mach.write_via h (inc p.ea) hf.data w2).bind fun _ h => .pure h
  · exact h

theorem loadByte_via {m0 m : Mach} (h : Mach.Acts m0 m) (a : AcNum) (p : FetchedPtr) (f : Frame) :
    Run.Via m0 id (loadByte a p f m) :=
  (bpFields_via h _ _ _).bind fun _ h => (byteAddress_via h p f).bind fun be h => (Mach.read_via h be _).bind fun _ h =>
    .pure (h.setX a _)

theorem storeByte_via {m0 m m' : Mach} (h : Mach.Acts m0 m) (a : AcNum) (p : FetchedPtr) {f : Frame} (hf : f.Fits m0 m') :
    Run.Via m0 id (storeByte a p f m) :=
  (bpFields_via h _ _ _).bind fun _ h => (byteAddress_via h p f).bind fun be h => (Mach.read_via h be _).bind fun _ h =>
    Mach.write_via h be hf.second _

theorem bodyLdb_sound (a : AcNum) (e : AddrFields) : (bodyLdb a e).Sound := fun f _ _ _ h =>
  (fetchPointer_via h e f).seq fun p h => (loadByte_via h a p f).seq fun _ h => .advance h 1

theorem bodyDpb_sound (a : AcNum) (e : AddrFields) : (bodyDpb a e).Sound := fun f _ _ hf h =>
  (fetchPointer_via h e f).seq fun p h => (storeByte_via h a p hf).seq fun _ h => .advance h 1

theorem bodyIldb_sound (a : AcNum) (e : AddrFields) : (bodyIldb a e).Sound := fun f _ _ hf h =>
  (fetchPointer_via h e f).seq fun p h => (stepPointer_via h p hf).seq fun x h =>
    (loadByte_via h a x.1 f).seq fun _ h => .advance h 1

theorem bodyIdpb_sound (a : AcNum) (e : AddrFields) : (bodyIdpb a e).Sound := fun f _ _ hf h =>
  (fetchPointer_via h e f).seq fun p h => (stepPointer_via h p hf).seq fun x h =>
    (storeByte_via h a x.1 hf).seq fun _ h => .advance h 1

theorem adjbp_sound (a : AcNum) (e : AddrFields) : (adjbp a e).Sound := fun f _ _ _ h =>
  (fetchPointer_via h e f).seq fun p h => (bpFields_via h _ _ _).seq fun _ h => (byteAddress_via h p f).seq fun _ h =>
    .advance (setResults_acts 0o133 _ a [0, 1] _ h) 1

theorem bodyIbp_sound (a : AcNum) (e : AddrFields) : (bodyIbp a e).Sound := fun f m0 m hf h => by
  unfold bodyIbp
  split
  · exact (fetchPointer_via h e f).seq fun p h => (stepPointer_via h p hf).seq fun _ h => .advance h 1
  · exact adjbp_sound a e f m0 m hf h

/-! ## Jumps and stacks -/

theorem bodyJrst_sound (e : AddrFields) : (bodyJrst e).Sound := fun f _ _ _ h =>
  (instrEa_via h _ e f).seq fun ea h => .setPc h ea.addr

theorem bodyJrstf_sound (e : AddrFields) : (bodyJrstf e).Sound := fun f m0 m _ h => by
  refine (Frame.guard_via h f _).seq fun _ h => (Mach.ea_via h _).seq fun r h => ?_
  obtain ⟨ea, lw⟩ := r
  dsimp only
  split
  · exact h
  · exact .restore h _ _

theorem readFlagsBlock_via {m0 m : Mach} (h : Mach.Acts m0 m) (ea : EA) : Run.Via m0 (fun _ => m) (readFlagsBlock ea m) :=
  (Mach.read_via h ea _).bind fun _ h => (Mach.incRef_via h ea).bind fun e2 h => (Mach.read_via h e2 _).bind fun _ h => .pure h

theorem bodyXjrstf_sound (e : AddrFields) : (bodyXjrstf e).Sound := fun f _ _ _ h =>
  (instrEa_via h _ e f).seq fun ea h => (readFlagsBlock_via h ea).seq fun _ h => .restore h _ _

theorem bodyXjen_sound (e : AddrFields) : (bodyXjen e).Sound := fun f m0 m _ h => by
  refine (instrEa_via h _ e f).seq fun ea h => ?_
  split
  · exact h
  · split
    · trivial
    · exact (readFlagsBlock_via h ea).seq fun _ h => .restore h _ _

theorem bodyXjrst_sound (e : AddrFields) : (bodyXjrst e).Sound := fun f _ _ _ h =>
  (instrEa_via h _ e f).seq fun ea h => (Mach.read_via h ea _).seq fun w h => .setPc h (addrOf w)

theorem bodyJsp_sound (a : AcNum) (e : AddrFields) : (bodyJsp a e).Sound := fun f _ _ _ h =>
  (instrEa_via h _ e f).seq fun ea h => .setPc (h.setX a _) ea.addr

theorem bodyJsr_sound (a : AcNum) (e : AddrFields) : (bodyJsr a e).Sound := fun f _ _ _ h =>
  (instrEa_via h _ e f).seq fun ea h => (Mach.write_via h ea cur_prev _).seq fun _ h => (Mach.incRef_via h ea).seq fun _ h =>
    .setPc h _

theorem bodyJsa_sound (a : AcNum) (e : AddrFields) : (bodyJsa a e).Sound := fun f m0 m _ h => by
  refine (instrEa_via h _ e f).seq fun ea h => ?_
  dsimp only
  split
  · trivial
  · exact (Mach.write_via h ea cur_prev _).seq fun _ h => .setPc (h.setX a _) _

theorem bodyJra_sound (a : AcNum) (e : AddrFields) : (bodyJra a e).Sound := fun f _ m _ h =>
  (instrEa_via h _ e f).seq fun _ h => (Mach.read_via h ⟨mkAddr m.st.pcSec (lh (m.x a)), .loc⟩ .cur).seq fun _ h =>
    .setPc (h.setX a _) _

theorem jrstUndescribed_sound (e : AddrFields) : (jrstUndescribed e).Sound := fun f _ _ _ h =>
  (instrEa_via h _ e f).seq fun _ _ => trivial

theorem jrstPrivileged_sound (fn : AcNum) (e : AddrFields) : (jrstPrivileged fn e).Sound := fun f m0 m _ h => by
  refine (instrEa_via h _ e f).seq fun _ h => ?_
  split <;> first | exact h | trivial

theorem muuoOp_sound (op : BitVec 9) (a : AcNum) (e : AddrFields) : (muuoOp op a e).Sound := fun f _ _ _ h =>
  (instrEa_via h _ e f).seq fun _ h => h

theorem pushPointer_via {m0 m : Mach} (h : Mach.Acts m0 m) (a : AcNum) : Run.Via m0 (fun _ => m) (pushPointer a m) :=
  (stackCheck_via h _ _ _).bind fun _ h => (Mach.ruling_via h _ _).bind fun _ h => .pure h

theorem pushWord_via {m0 m : Mach} (h : Mach.Acts m0 m) (a : AcNum) (v : Word) : Run.Via m0 id (pushWord a v m) := by
  refine (pushPointer_via h a).bind fun x h => ?_
  obtain ⟨sp, top⟩ := x
  dsimp only
  cases hl : Mach.locate m top .cur .write with
  | error e =>
    have := Mach.locate_via h top .cur .write
    rw [hl] at this
    cases e <;> exact this
  | ok l => exact Mach.put_acts (h.setX a sp) cur_prev (by simpa using Mach.locate_eq_ok.1 hl) v

theorem popPointer_via {m0 m : Mach} (h : Mach.Acts m0 m) (a : AcNum) (sp : Word) : Run.Via m0 id (popPointer a sp m) :=
  (stackCheck_via h _ _ _).bind fun _ h => .pure (h.setX a _)

theorem bodyPush_sound (a : AcNum) (e : AddrFields) : (bodyPush a e).Sound := fun f _ _ _ h =>
  (instrEa_via h _ e f).seq fun ea h => (Mach.read_via h ea _).seq fun _ h => (pushWord_via h a _).seq fun _ h =>
    .advance h 1

theorem bodyPop_sound (a : AcNum) (e : AddrFields) : (bodyPop a e).Sound := fun f _ m hf h =>
  (instrEa_via h _ e f).seq fun ea h =>
    (Mach.read_via h (stackAddr m.st.pcSec (spGlobal m.st.pcSec (m.x a)) (m.x a)) .cur).seq fun _ h =>
      (Mach.write_via h ea hf.data _).seq fun _ h => (popPointer_via h a _).seq fun _ h => .advance h 1

theorem bodyPushj_sound (a : AcNum) (e : AddrFields) : (bodyPushj a e).Sound := fun f _ _ _ h =>
  (instrEa_via h _ e f).seq fun _ h => (pushWord_via h a _).seq fun _ h => .setPc h _

theorem bodyPopj_sound (a : AcNum) (e : AddrFields) : (bodyPopj a e).Sound := fun f _ m _ h =>
  (instrEa_via h _ e f).seq fun _ h =>
    (Mach.read_via h (stackAddr m.st.pcSec (spGlobal m.st.pcSec (m.x a)) (m.x a)) .cur).seq fun _ h =>
      (popPointer_via h a _).seq fun _ h => .setPc h _

theorem bodyAdjsp_sound (a : AcNum) (e : AddrFields) : (bodyAdjsp a e).Sound := fun f _ m _ h =>
  (instrEa_via h _ e f).seq fun ea h =>
    Mach.Done.flags (Config.dataFlags 0o105 [m.x a, join 0 (offOf ea.addr)]) _ (h.setX a _)

/-! ## Blocks and strings -/

theorem bltLoop_via {m0 : Mach} (cs : Ctx) {cd : Ctx} (hc : cd = .prev → m0.st.mode = .exec) (n : Nat) :
    ∀ (src dst : EA) (m : Mach), Mach.Acts m0 m → Run.Via m0 id (bltLoop cs cd n src dst m) := by
  induction n with
  | zero => exact fun _ _ _ h => h
  | succ n ih =>
    exact fun src dst m h => (Mach.read_via h src cs).bind fun _ h => (Mach.write_via h dst hc _).bind fun m h => ih _ _ m h

theorem bodyBlt_sound (a : AcNum) (e : AddrFields) : (bodyBlt a e).Sound := fun f _ m hf h =>
  (instrEa_via h _ e f).seq fun _ h => (Mach.ruling_via h _ _).seq fun _ h =>
    (bltLoop_via _ hf.data _ _ _ m.drawn h.drawn).seq fun _ h => (Mach.ruling_via h _ _).seq fun _ h =>
      .advance (h.setFree a) 1

theorem Frame.guardExt_via {m0 m : Mach} (h : Mach.Acts m0 m) (f : Frame) (b : Bool) :
    Run.Via m0 (fun _ => m) (f.guardExt b) := by
  unfold Frame.guardExt
  split
  · exact h
  · split
    · trivial
    · split <;> first | exact h | trivial

theorem xbltLoop_via {m0 : Mach} (a : AcNum) (cs : Ctx) {cd : Ctx} (hc : cd = .prev → m0.st.mode = .exec) (n : Nat) :
    ∀ (src dst : EA) (own : Bool) (m : Mach), Mach.Acts m0 m → Run.Via m0 Prod.snd (xbltLoop a cs cd n src dst own m) := by
  induction n with
  | zero => exact fun _ _ _ _ h => h
  | succ n ih =>
    intro src dst own m h
    refine (Mach.locate_via h src cs .read).bind fun ls h => ?_
    have hd : Mach.Acts m0 (if ownAc m a ls = true then m.drawn else m) := by
      split
      · exact h.drawn
      · exact h
    dsimp only
    cases hl : Mach.locate (if ownAc m a ls = true then m.drawn else m) dst cd .write with
    | error e =>
      have := Mach.locate_via hd dst cd .write
      rw [hl] at this
      cases e <;> exact this
    | ok ld =>
      exact (Mach.ruling_via hd _ _).bind fun _ hd => (Mach.ruling_via hd _ _).bind fun _ hd =>
        ih _ _ _ _ (Mach.put_acts hd hc (Mach.locate_eq_ok.1 hl) _)

theorem bodyXblt_sound (a : AcNum) (e0 : EA) (z : BitVec 4) (e : AddrFields) : (bodyXblt a e0 z e).Sound :=
  fun f m0 m hf h => by
  refine (Frame.guardExt_via h f true).seq fun _ h => ?_
  dsimp only
  split
  · trivial
  · refine (xbltLoop_via a _ hf.second _ _ _ _ m h).seq fun x h => ?_
    obtain ⟨own, m⟩ := x
    refine Mach.Done.pc _ (m := if own = true then _ else _) ?_
    split
    · exact ((h.setFree _).setFree _).setFree _
    · exact ((h.setX _ _).setX _ _).setX _ _

theorem strBP_via {m0 m : Mach} (h : Mach.Acts m0 m) (k : AcNum) (ctl : Bool) : Run.Via m0 (fun _ => m) (strBP m k ctl) :=
  bpAddress_via h ..

theorem advancePtr_via {m0 m : Mach} (h : Mach.Acts m0 m) (k : AcNum) (ctl : Bool) :
    Run.Via m0 id (advancePtr k ctl m) := by
  refine (incBP_via h _ _ _ _).bind fun w h => ?_
  obtain ⟨w1, w2⟩ := w
  refine .pure (out := id) ?_
  dsimp only [id]
  split
  · exact (h.setX _ _).setX _ _
  · exact h.setX _ _

theorem nextByte_via {m0 m : Mach} (h : Mach.Acts m0 m) (k : AcNum) (ctl : Bool) :
    Run.Via m0 Prod.snd (nextByte k ctl m) :=
  (advancePtr_via h k ctl).bind fun _ h => (bpFields_via h _ _ _).bind fun _ h => (strBP_via h k ctl).bind fun be h =>
    (Mach.read_via h be _).bind fun _ h => .pure h

theorem putByte_via {m0 m : Mach} (h : Mach.Acts m0 m) (k : AcNum) {ctl : Bool}
    (hc : ctxOf ctl = .prev → m0.st.mode = .exec) (b : Word) : Run.Via m0 id (putByte k ctl b m) :=
  (advancePtr_via h k ctl).bind fun _ h => (bpFields_via h _ _ _).bind fun _ h => (strBP_via h k ctl).bind fun be h =>
    (Mach.read_via h be _).bind fun _ h => Mach.write_via h be hc _

theorem movsljSource_via {m0 m : Mach} (h : Mach.Acts m0 m) (a : AcNum) (ctl : Bool) (fill : Word) :
    Run.Via m0 Prod.snd (movsljSource a ctl fill m) := by
  unfold movsljSource
  split
  · exact h
  · exact (nextByte_via h _ ctl).bind fun _ h => .pure (h.setX a _)

theorem movsljLoop_via {m0 : Mach} (a : AcNum) (src : Bool) {dst : Bool} (hc : ctxOf dst = .prev → m0.st.mode = .exec)
    (fill : Word) (n : Nat) : ∀ m, Mach.Acts m0 m → Run.Via m0 id (movsljLoop a src dst fill n m) := by
  induction n with
  | zero => exact fun _ _ => trivial
  | succ n ih =>
    intro m h
    unfold movsljLoop
    split
    · exact h
    · exact (movsljSource_via h a src fill).bind fun x h => (putByte_via h _ hc x.1).bind fun m h => ih _ (h.setX _ _)

theorem bodyMovslj_sound (a : AcNum) (e0 : EA) (z : BitVec 4) (e : AddrFields) : (bodyMovslj a e0 z e).Sound :=
  fun f _ _ hf h => (Frame.guardExt_via h f true).seq fun _ h => (Mach.incRef_via h e0).seq fun e2 h =>
    (Mach.read_via h e2 .cur).seq fun fill h =>
    (movsljLoop_via a _ hf.second fill _ _ h).seq fun _ h => .skipIf h _

theorem readTable_via {m0 m : Mach} (h : Mach.Acts m0 m) (op : Nat) (t : Option EA) (b : Word) :
    Run.Via m0 (fun _ => m) (readTable op t b m) := by
  unfold readTable
  split
  · exact h
  · exact (Mach.read_via h _ .cur).bind fun _ h => .pure h

theorem fetchBytes_via {m0 : Mach} (op : Nat) (t : Option EA) (k : AcNum) (n : Nat) :
    ∀ m, Mach.Acts m0 m → Run.Via m0 Prod.snd (fetchBytes op t k n m) := by
  induction n with
  | zero => exact fun _ h => h
  | succ n ih =>
    exact fun m h => (nextByte_via h k false).bind fun x h => (readTable_via h op t x.1).bind fun _ h =>
      (ih _ h).bind fun _ h => .pure h

theorem storeBytes_via {m0 : Mach} (op : Nat) (t : Option EA) (k : AcNum) (n : Nat) :
    ∀ m, Mach.Acts m0 m → Run.Via m0 id (storeBytes op t k n m) := by
  induction n with
  | zero => exact fun _ h => h
  | succ n ih =>
    exact fun m h => (readTable_via h op t m.fresh).bind fun _ h =>
      (putByte_via h.drawn k (ctl := false) cur_prev m.fresh).bind fun m h => ih m h

theorem skimWords_via {m0 m : Mach} (h : Mach.Acts m0 m) (ea : EA) (n : Nat) :
    Run.Via m0 (fun _ => m) (skimWords ea n m) := (readWords_via h .cur n ea).bind fun _ h => .pure h

theorem freeBlock_acts {m0 m : Mach} (h : Mach.Acts m0 m) (a : AcNum) : Mach.Acts m0 (freeBlock a m) :=
  (((((h.setFree _).setFree _).setFree _).setFree _).setFree _).setFree _

theorem finishString_ends {m0 m : Mach} (h : Mach.Acts m0 m) (a : AcNum) : Run.Ends m0 (finishString a m) :=
  Mach.Done.pc _ (freeBlock_acts h a).drawn

theorem extendedEa_via {m0 m : Mach} (h : Mach.Acts m0 m) (e0 : EA) (e : AddrFields) :
    Run.Via m0 (fun _ => m) (extendedEa e0 e m) := Mach.ea_via h _

theorem freeMove_ends {m0 m : Mach} (h : Mach.Acts m0 m) (op : Nat) (t : Option EA) (a : AcNum) (e0 : EA) :
    Run.Ends m0 (freeMove op t a e0 m) :=
  (Mach.incRef_via h e0).seq fun e2 h => (Mach.read_via h e2 .cur).seq fun _ h => (fetchBytes_via op t _ _ _ h.drawn).seq fun x h =>
    (storeBytes_via op none _ _ _ (Mach.Acts.drawn (m := x.2) h)).seq fun _ h => finishString_ends h a

theorem freeCompare_sound (op : Nat) (rel : Ordering → Bool) (a : AcNum) (e0 : EA) : (freeCompare op rel a e0).Sound :=
  fun f _ _ _ h => (Frame.guardExt_via h f false).seq fun _ h => (Mach.incRef_via h e0).seq fun _ h =>
    (readWords_via h _ _ _).seq fun _ h =>
    (fetchBytes_via op none _ _ _ h.drawn).seq fun x h =>
      (fetchBytes_via op none _ _ _ (Mach.Acts.drawn (m := x.2) h)).seq fun x h =>
        .skipIf (freeBlock_acts (m := x.2) h a) _

theorem freeToBinary_sound (op : Nat) (t : Bool) (a : AcNum) (e0 : EA) (e : AddrFields) :
    (freeToBinary op t a e0 e).Sound := fun f _ _ _ h =>
  (Frame.guardExt_via h f false).seq fun _ h => (extendedEa_via h e0 e).seq fun _ h =>
    (fetchBytes_via op _ _ _ _ h.drawn).seq fun _ h => finishString_ends h a

theorem freeToDecimal_sound (op : Nat) (t : Bool) (a : AcNum) (e0 : EA) (e : AddrFields) :
    (freeToDecimal op t a e0 e).Sound := fun f _ _ _ h =>
  (Frame.guardExt_via h f false).seq fun _ h => (extendedEa_via h e0 e).seq fun _ h =>
    (storeBytes_via op _ _ _ _ h.drawn).seq fun _ h => finishString_ends h a

theorem bodyMovso_sound (a : AcNum) (e0 : EA) (z : BitVec 4) (e : AddrFields) : (bodyMovso a e0 z e).Sound :=
  fun f _ _ _ h => (Frame.guardExt_via h f false).seq fun _ h => (extendedEa_via h e0 e).seq fun _ h =>
    freeMove_ends h _ _ a e0

theorem bodyMovst_sound (a : AcNum) (e0 : EA) (z : BitVec 4) (e : AddrFields) : (bodyMovst a e0 z e).Sound :=
  fun f _ _ _ h => (Frame.guardExt_via h f false).seq fun _ h => (extendedEa_via h e0 e).seq fun _ h =>
    freeMove_ends h _ _ a e0

theorem bodyMovsrj_sound (a : AcNum) (e0 : EA) (z : BitVec 4) (e : AddrFields) : (bodyMovsrj a e0 z e).Sound :=
  fun f _ _ _ h => (Frame.guardExt_via h f false).seq fun _ h => freeMove_ends h _ _ a e0

theorem editAddress_via {m0 m : Mach} (h : Mach.Acts m0 m) (v : Word) : Run.Via m0 (fun _ => m) (editAddress m v) := by
  unfold editAddress
  split
  · split <;> first | exact h | trivial
  · exact h

theorem bodyEdit_sound (a : AcNum) (e0 : EA) (z : BitVec 4) (e : AddrFields) : (bodyEdit a e0 z e).Sound :=
  fun f m0 m _ h => by
  refine (Frame.guardExt_via h f false).seq fun _ h => (extendedEa_via h e0 e).seq fun e1 h =>
    (editAddress_via h _).seq fun pat h => (editAddress_via h _).seq fun mark h =>
    (skimWords_via h pat _).seq fun _ h => ?_
  refine (fetchBytes_via _ _ _ _ _ h.drawn.drawn).seq fun x h => ?_
  refine (storeBytes_via _ _ _ _ _ (Mach.Acts.drawn (m := x.2) h)).seq fun m h => ?_
  have h : Mach.Acts m0 m := h
  dsimp only
  split
  · exact (Mach.write_via h.drawn mark cur_prev _).seq fun m h => finishString_ends (Mach.Acts.drawn (m := m) h) a
  · exact finishString_ends h.drawn.drawn a

theorem extendedBody_sound (a : AcNum) (e0 : EA) (xw : Word) : (extendedBody a e0 xw).Sound := by
  unfold extendedBody
  split <;> first
    | exact freeCompare_sound _ _ _ _
    | exact freeToBinary_sound _ _ _ _ _
    | exact freeToDecimal_sound _ _ _ _ _
    | exact bodyEdit_sound _ _ _ _
    | exact bodyMovso_sound _ _ _ _
    | exact bodyMovst_sound _ _ _ _
    | exact bodyMovslj_sound _ _ _ _
    | exact bodyMovsrj_sound _ _ _ _
    | exact bodyXblt_sound _ _ _ _
    | exact fun f _ _ _ h => (Frame.guardExt_via h f false).seq fun _ h => h

theorem bodyExtend_sound (a : AcNum) (e : AddrFields) : (bodyExtend a e).Sound := fun f m0 m hf h => by
  have hg : Run.Via m0 (fun _ => m) f.guardExtend := by
    unfold Frame.guardExtend
    split
    · exact h
    · split <;> first | exact h | trivial
  exact hg.seq fun _ h => (Mach.ea_via h _).seq fun e0 h => (Mach.read_via h e0 .cur).seq fun xw h =>
    extendedBody_sound a e0 _ f m0 m hf h

theorem bodyIo_sound (r : BitVec 33) : (bodyIo r).Sound := fun f m0 m _ h => by
  refine (instrEa_via h _ _ f).seq fun _ h => ?_
  split <;> first | exact h | trivial

/-! ## Instructions that execute a further word -/

theorem Mach.blockWord_via {m0 m : Mach} (h : Mach.Acts m0 m) (base : Addr) (k : Nat) :
    Run.Via m0 (fun _ => m) (m.blockWord base k) := (Mach.ruling_via h _ _).bind fun _ h => .pure h

theorem storeBlock_via {m0 : Mach} (base : Addr) (ws : List (Nat × Word)) :
    ∀ m, Mach.Acts m0 m → Run.Via m0 id (storeBlock base ws m) := by
  induction ws with
  | nil => exact fun _ h => h
  | cons w t ih =>
    exact fun m h => (Mach.blockWord_via h base w.1).bind fun e h => (Mach.write_via h e cur_prev w.2).bind fun m h => ih m h

/-- The place of a word of a block depends on the current AC block and the parameters only. -/
theorem State.blockPlace_congr {s t : State} (hc : t.cab = s.cab) (hg : t.cfg = s.cfg) (sp : Option Space) (base : Word) (k : Nat)
    (acc : Access) : t.blockPlace sp base k acc = s.blockPlace sp base k acc := by
  unfold State.blockPlace
  rw [hc, hg]

theorem storePlaced_acts {m0 : Mach} {lb : LuuoLayout} {sp : Option Space} (hl : m0.st.cfg.traps.luuoBlock = some lb)
    (ha : lb.addressing = .placed sp) (ws : List (Nat × Word)) :
    ∀ m m', (∀ w ∈ ws, ∃ u ∈ lb.words, u.number = w.1) → Mach.Acts m0 m →
      storePlaced sp (m0.st.luuoPointer lb) ws m = some m' → Mach.Acts m0 m' := by
  induction ws with
  | nil =>
    intro m m' _ h hs
    obtain rfl := Option.some.inj hs
    exact h
  | cons w t ih =>
    intro m m' hw h hs
    obtain ⟨u, hu, hn⟩ := hw w (.head _)
    unfold storePlaced at hs
    split at hs
    · cases hs
    · next l hp =>
      rw [State.blockPlace_congr h.fixed.2.2.2.1 h.cfg, ← hn] at hp
      exact ih _ _ (fun w h => hw w (.tail _ h)) (h.tail (.block m w.2 hl ha hu hp)) hs

/-- The address word of the LUUO block under the changes so far: that of the start where nothing was stored. -/
theorem Mach.Acts.luuoPointer {m0 m : Mach} (h : Mach.Acts m0 m) (hm : m.st.mem = m0.st.mem) (lb : LuuoLayout) :
    m.st.luuoPointer lb = m0.st.luuoPointer lb := by
  obtain ⟨h1, -, -, -, -, -, -, h8, h9, -⟩ := h.fixed
  have hb : m.st.tableBase m.st.luuoTable = m0.st.tableBase m0.st.luuoTable := by
    unfold State.luuoTable
    rw [h1]
    split
    · exact h8
    · exact h9
  simp only [State.luuoPointer, State.get, hm, hb]

theorem luuoOp_sound {run : RunWord} (hr : ∀ w, (run w).Sound) (op : BitVec 9) (a : AcNum) (e : AddrFields) :
    (luuoOp run op a e).Sound := fun f m0 m hf h => by
  refine (instrEa_via h _ e f).seq fun ea h => ?_
  have hpc : m.st.pcSec = m0.st.pcSec := by simp [State.pcSec, h.fixed.2.2.1]
  split
  · next hz =>
    unfold luuo40
    split
    · refine (Mach.write_via h _ cur_prev _).seq fun m h => (Mach.read_via (m := m) h _ .cur).seq fun w h => ?_
      exact hr _ _ m0 _ ⟨fun hn => absurd rfl hn, fun hs => absurd (hpc.symm.trans hz) hs⟩ (h.word _)
    · trivial
  · next hz =>
    unfold luuoBlock
    split
    · trivial
    · next lb hl =>
      dsimp only
      split
      · exact (storeBlock_via _ _ m h).seq fun m h => (Mach.blockWord_via (m := m) h _ _).seq fun e h =>
          (Mach.read_via h e .cur).seq fun _ h => .setPc h _
      · next sp hp =>
        split
        · trivial
        · next m' hs =>
          have hq : Mach.Acts m0 m' := by
            rw [h.luuoPointer (hf.mem (hpc ▸ hz))] at hs
            refine storePlaced_acts (by rw [← h.cfg]; exact hl) hp _ m m' (fun w hw => ?_) h hs
            obtain ⟨u, hu, rfl⟩ := List.mem_map.1 hw
            exact ⟨u, hu, rfl⟩
          split
          · trivial
          · exact Mach.Done.pc _ hq

theorem bodyXct_sound {run : RunWord} (hr : ∀ w, (run w).Sound) (e : AddrFields) : (bodyXct run e).Sound :=
  fun f m0 _ hf h => (instrEa_via h _ e f).seq fun ea h => (Mach.read_via h ea .cur).seq fun _ h =>
    hr _ _ m0 _ ⟨fun hn => absurd rfl hn, hf.mem⟩ (h.word _)

theorem bodyPxct_sound {run : RunWord} (hr : ∀ w, (run w).Sound) (n : AcNum) (e : AddrFields) :
    (bodyPxct run n e).Sound :=
  fun f m0 m hf h => (instrEa_via h _ e f).seq fun ea h => (Mach.ruling_via h _ _).seq fun _ h =>
    (Mach.read_via h ea .cur).seq fun w h => by
    refine hr _ _ m0 _ ⟨fun hn => ?_, hf.mem⟩ (h.word _)
    rw [← h.mode]
    by_cases hm : m.st.mode = .user
    · simp [hm] at hn
    · cases hx : m.st.mode
      · rfl
      · exact absurd hx hm

/-- Every meaning is sound if the words it executes in turn are. -/
theorem bodyOf_sound {run : RunWord} (hr : ∀ w, (run w).Sound) (i : Instr) : (bodyOf run i).Sound :=
  match i with
  | .muuo000 _ _ => muuoOp_sound _ _ _
  | .luuo01 _ _ => luuoOp_sound hr _ _ _
  | .luuo02 _ _ => luuoOp_sound hr _ _ _
  | .luuo03 _ _ => luuoOp_sound hr _ _ _
  | .luuo04 _ _ => luuoOp_sound hr _ _ _
  | .luuo05 _ _ => luuoOp_sound hr _ _ _
  | .luuo06 _ _ => luuoOp_sound hr _ _ _
  | .luuo07 _ _ => luuoOp_sound hr _ _ _
  | .luuo10 _ _ => luuoOp_sound hr _ _ _
  | .luuo11 _ _ => luuoOp_sound hr _ _ _
  | .luuo12 _ _ => luuoOp_sound hr _ _ _
  | .luuo13 _ _ => luuoOp_sound hr _ _ _
  | .luuo14 _ _ => luuoOp_sound hr _ _ _
  | .luuo15 _ _ => luuoOp_sound hr _ _ _
  | .luuo16 _ _ => luuoOp_sound hr _ _ _
  | .luuo17 _ _ => luuoOp_sound hr _ _ _
  | .luuo20 _ _ => luuoOp_sound hr _ _ _
  | .luuo21 _ _ => luuoOp_sound hr _ _ _
  | .luuo22 _ _ => luuoOp_sound hr _ _ _
  | .luuo23 _ _ => luuoOp_sound hr _ _ _
  | .luuo24 _ _ => luuoOp_sound hr _ _ _
  | .luuo25 _ _ => luuoOp_sound hr _ _ _
  | .luuo26 _ _ => luuoOp_sound hr _ _ _
  | .luuo27 _ _ => luuoOp_sound hr _ _ _
  | .luuo30 _ _ => luuoOp_sound hr _ _ _
  | .luuo31 _ _ => luuoOp_sound hr _ _ _
  | .luuo32 _ _ => luuoOp_sound hr _ _ _
  | .luuo33 _ _ => luuoOp_sound hr _ _ _
  | .luuo34 _ _ => luuoOp_sound hr _ _ _
  | .luuo35 _ _ => luuoOp_sound hr _ _ _
  | .luuo36 _ _ => luuoOp_sound hr _ _ _
  | .luuo37 _ _ => luuoOp_sound hr _ _ _
  | .muuo040 _ _ _ => muuoOp_sound _ _ _
  | .muuo100 _ _ => muuoOp_sound _ _ _
  | .muuo101 _ _ => muuoOp_sound _ _ _
  | .muuo102 _ _ => muuoOp_sound _ _ _
  | .muuo103 _ _ => muuoOp_sound _ _ _
  | .muuo106 _ _ => muuoOp_sound _ _ _
  | .muuo107 _ _ => muuoOp_sound _ _ _
  | .muuo247 _ _ => muuoOp_sound _ _ _
  | .jsys _ _ => muuoOp_sound _ _ _
  | .adjsp a e => bodyAdjsp_sound a e
  | .dfad _ _ => dataOp_sound _ _ _ _
  | .dfsb _ _ => dataOp_sound _ _ _ _
  | .dfmp _ _ => dataOp_sound _ _ _ _
  | .dfdv _ _ => dataOp_sound _ _ _ _
  | .dadd _ _ => dataOp_sound _ _ _ _
  | .dsub _ _ => dataOp_sound _ _ _ _
  | .dmul _ _ => dataOp_sound _ _ _ _
  | .ddiv _ _ => dataOp_sound _ _ _ _
  | .dmove a e => bodyDmove_sound a e
  | .dmovn _ _ => dataOp_sound _ _ _ _
  | .fix _ _ => dataOp_sound _ _ _ _
  | .extend a e => bodyExtend_sound a e
  | .dmovem a e => bodyDmovem_sound a e
  | .dmovnm _ _ => dataOp_sound _ _ _ _
  | .fixr _ _ => dataOp_sound _ _ _ _
  | .fltr _ _ => dataOp_sound _ _ _ _
  | .ufa _ _ => dataOp_sound _ _ _ _
  | .dfn _ _ => dataOp_sound _ _ _ _
  | .fsc _ _ => dataOp_sound _ _ _ _
  | .ibp a e => bodyIbp_sound a e
  | .ildb a e => bodyIldb_sound a e
  | .ldb a e => bodyLdb_sound a e
  | .idpb a e => bodyIdpb_sound a e
  | .dpb a e => bodyDpb_sound a e
  | .fad _ _ => dataOp_sound _ _ _ _
  | .muuo141 _ _ => muuoOp_sound _ _ _
  | .fadm _ _ => dataOp_sound _ _ _ _
  | .fadb _ _ => dataOp_sound _ _ _ _
  | .fadr _ _ => dataOp_sound _ _ _ _
  | .fadri _ _ => dataOp_sound _ _ _ _
  | .fadrm _ _ => dataOp_sound _ _ _ _
  | .fadrb _ _ => dataOp_sound _ _ _ _
  | .fsb _ _ => dataOp_sound _ _ _ _
  | .muuo151 _ _ => muuoOp_sound _ _ _
  | .fsbm _ _ => dataOp_sound _ _ _ _
  | .fsbb _ _ => dataOp_sound _ _ _ _
  | .fsbr _ _ => dataOp_sound _ _ _ _
  | .fsbri _ _ => dataOp_sound _ _ _ _
  | .fsbrm _ _ => dataOp_sound _ _ _ _
  | .fsbrb _ _ => dataOp_sound _ _ _ _
  | .fmp _ _ => dataOp_sound _ _ _ _
  | .muuo161 _ _ => muuoOp_sound _ _ _
  | .fmpm _ _ => dataOp_sound _ _ _ _
  | .fmpb _ _ => dataOp_sound _ _ _ _
  | .fmpr _ _ => dataOp_sound _ _ _ _
  | .fmpri _ _ => dataOp_sound _ _ _ _
  | .fmprm _ _ => dataOp_sound _ _ _ _
  | .fmprb _ _ => dataOp_sound _ _ _ _
  | .fdv _ _ => dataOp_sound _ _ _ _
  | .muuo171 _ _ => muuoOp_sound _ _ _
  | .fdvm _ _ => dataOp_sound _ _ _ _
  | .fdvb _ _ => dataOp_sound _ _ _ _
  | .fdvr _ _ => dataOp_sound _ _ _ _
  | .fdvri _ _ => dataOp_sound _ _ _ _
  | .fdvrm _ _ => dataOp_sound _ _ _ _
  | .fdvrb _ _ => dataOp_sound _ _ _ _
  | .move a e => bodyMove_sound a e
  | .movei a e => bodyMovei_sound a e
  | .movem a e => bodyMovem_sound a e
  | .moves _ _ => dataOp_sound _ _ _ _
  | .movs _ _ => dataOp_sound _ _ _ _
  | .movsi _ _ => dataOp_sound _ _ _ _
  | .movsm _ _ => dataOp_sound _ _ _ _
  | .movss _ _ => dataOp_sound _ _ _ _
  | .movn _ _ => dataOp_sound _ _ _ _
  | .movni _ _ => dataOp_sound _ _ _ _
  | .movnm _ _ => dataOp_sound _ _ _ _
  | .movns _ _ => dataOp_sound _ _ _ _
  | .movm _ _ => dataOp_sound _ _ _ _
  | .movmi _ _ => dataOp_sound _ _ _ _
  | .movmm _ _ => dataOp_sound _ _ _ _
  | .movms _ _ => dataOp_sound _ _ _ _
  | .imul _ _ => dataOp_sound _ _ _ _
  | .imuli _ _ => dataOp_sound _ _ _ _
  | .imulm _ _ => dataOp_sound _ _ _ _
  | .imulb _ _ => dataOp_sound _ _ _ _
  | .mul _ _ => dataOp_sound _ _ _ _
  | .muli _ _ => dataOp_sound _ _ _ _
  | .mulm _ _ => dataOp_sound _ _ _ _
  | .mulb _ _ => dataOp_sound _ _ _ _
  | .idiv _ _ => dataOp_sound _ _ _ _
  | .idivi _ _ => dataOp_sound _ _ _ _
  | .idivm _ _ => dataOp_sound _ _ _ _
  | .idivb _ _ => dataOp_sound _ _ _ _
  | .div _ _ => dataOp_sound _ _ _ _
  | .divi _ _ => dataOp_sound _ _ _ _
  | .divm _ _ => dataOp_sound _ _ _ _
  | .divb _ _ => dataOp_sound _ _ _ _
  | .ash _ _ => dataOp_sound _ _ _ _
  | .rot _ _ => dataOp_sound _ _ _ _
  | .lsh _ _ => dataOp_sound _ _ _ _
  | .jffo _ _ => jumpOp_sound _ _ _ _
  | .ashc _ _ => dataOp_sound _ _ _ _
  | .rotc _ _ => dataOp_sound _ _ _ _
  | .lshc _ _ => dataOp_sound _ _ _ _
  | .exch a e => bodyExch_sound a e
  | .blt a e => bodyBlt_sound a e
  | .aobjp _ _ => jumpOp_sound _ _ _ _
  | .aobjn _ _ => jumpOp_sound _ _ _ _
  | .jrst e => bodyJrst_sound e
  | .portal _ => jrstUndescribed_sound _
  | .jrstf e => bodyJrstf_sound e
  | .muuoJrst03 _ => muuoOp_sound _ _ _
  | .halt _ => jrstPrivileged_sound _ _
  | .xjrstf e => bodyXjrstf_sound e
  | .xjen e => bodyXjen_sound e
  | .xpcw _ => jrstPrivileged_sound _ _
  | .jrst10 _ => jrstPrivileged_sound _ _
  | .muuoJrst11 _ => muuoOp_sound _ _ _
  | .jen _ => jrstPrivileged_sound _ _
  | .muuoJrst13 _ => muuoOp_sound _ _ _
  | .sfm _ => jrstUndescribed_sound _
  | .xjrst e => bodyXjrst_sound e
  | .muuoJrst16 _ => muuoOp_sound _ _ _
  | .muuoJrst17 _ => muuoOp_sound _ _ _
  | .jfcl _ _ => flagJumpOp_sound _ _ _
  | .xct e => bodyXct_sound hr e
  | .pxct n e => bodyPxct_sound hr n e
  | .map a e => bodyMap_sound a e
  | .pushj a e => bodyPushj_sound a e
  | .push a e => bodyPush_sound a e
  | .pop a e => bodyPop_sound a e
  | .popj a e => bodyPopj_sound a e
  | .jsr a e => bodyJsr_sound a e
  | .jsp a e => bodyJsp_sound a e
  | .jsa a e => bodyJsa_sound a e
  | .jra a e => bodyJra_sound a e
  | .add _ _ => dataOp_sound _ _ _ _
  | .addi _ _ => dataOp_sound _ _ _ _
  | .addm _ _ => dataOp_sound _ _ _ _
  | .addb _ _ => dataOp_sound _ _ _ _
  | .sub _ _ => dataOp_sound _ _ _ _
  | .subi _ _ => dataOp_sound _ _ _ _
  | .subm _ _ => dataOp_sound _ _ _ _
  | .subb _ _ => dataOp_sound _ _ _ _
  | .cai _ _ => dataOp_sound _ _ _ _
  | .cail _ _ => dataOp_sound _ _ _ _
  | .caie _ _ => dataOp_sound _ _ _ _
  | .caile _ _ => dataOp_sound _ _ _ _
  | .caia _ _ => dataOp_sound _ _ _ _
  | .caige _ _ => dataOp_sound _ _ _ _
  | .cain _ _ => dataOp_sound _ _ _ _
  | .caig _ _ => dataOp_sound _ _ _ _
  | .cam _ _ => dataOp_sound _ _ _ _
  | .caml _ _ => dataOp_sound _ _ _ _
  | .came _ _ => dataOp_sound _ _ _ _
  | .camle _ _ => dataOp_sound _ _ _ _
  | .cama _ _ => dataOp_sound _ _ _ _
  | .camge _ _ => dataOp_sound _ _ _ _
  | .camn _ _ => dataOp_sound _ _ _ _
  | .camg _ _ => dataOp_sound _ _ _ _
  | .jump _ _ => jumpOp_sound _ _ _ _
  | .jumpl _ _ => jumpOp_sound _ _ _ _
  | .jumpe _ _ => jumpOp_sound _ _ _ _
  | .jumple _ _ => jumpOp_sound _ _ _ _
  | .jumpa _ _ => jumpOp_sound _ _ _ _
  | .jumpge _ _ => jumpOp_sound _ _ _ _
  | .jumpn _ _ => jumpOp_sound _ _ _ _
  | .jumpg _ _ => jumpOp_sound _ _ _ _
  | .skip _ _ => dataOp_sound _ _ _ _
  | .skipl _ _ => dataOp_sound _ _ _ _
  | .skipe _ _ => dataOp_sound _ _ _ _
  | .skiple _ _ => dataOp_sound _ _ _ _
  | .skipa a e => bodySkipa_sound a e
  | .skipge _ _ => dataOp_sound _ _ _ _
  | .skipn _ _ => dataOp_sound _ _ _ _
  | .skipg _ _ => dataOp_sound _ _ _ _
  | .aoj _ _ => jumpOp_sound _ _ _ _
  | .aojl _ _ => jumpOp_sound _ _ _ _
  | .aoje _ _ => jumpOp_sound _ _ _ _
  | .aojle _ _ => jumpOp_sound _ _ _ _
  | .aoja _ _ => jumpOp_sound _ _ _ _
  | .aojge _ _ => jumpOp_sound _ _ _ _
  | .aojn _ _ => jumpOp_sound _ _ _ _
  | .aojg _ _ => jumpOp_sound _ _ _ _
  | .aos _ _ => dataOp_sound _ _ _ _
  | .aosl _ _ => dataOp_sound _ _ _ _
  | .aose _ _ => dataOp_sound _ _ _ _
  | .aosle _ _ => dataOp_sound _ _ _ _
  | .aosa _ _ => dataOp_sound _ _ _ _
  | .aosge _ _ => dataOp_sound _ _ _ _
  | .aosn _ _ => dataOp_sound _ _ _ _
  | .aosg _ _ => dataOp_sound _ _ _ _
  | .soj _ _ => jumpOp_sound _ _ _ _
  | .sojl _ _ => jumpOp_sound _ _ _ _
  | .soje _ _ => jumpOp_sound _ _ _ _
  | .sojle _ _ => jumpOp_sound _ _ _ _
  | .soja _ _ => jumpOp_sound _ _ _ _
  | .sojge _ _ => jumpOp_sound _ _ _ _
  | .sojn _ _ => jumpOp_sound _ _ _ _
  | .sojg _ _ => jumpOp_sound _ _ _ _
  | .sos _ _ => dataOp_sound _ _ _ _
  | .sosl _ _ => dataOp_sound _ _ _ _
  | .sose _ _ => dataOp_sound _ _ _ _
  | .sosle _ _ => dataOp_sound _ _ _ _
  | .sosa _ _ => dataOp_sound _ _ _ _
  | .sosge _ _ => dataOp_sound _ _ _ _
  | .sosn _ _ => dataOp_sound _ _ _ _
  | .sosg _ _ => dataOp_sound _ _ _ _
  | .setz _ _ => dataOp_sound _ _ _ _
  | .setzi _ _ => dataOp_sound _ _ _ _
  | .setzm _ _ => dataOp_sound _ _ _ _
  | .setzb a e => bodySetzb_sound a e
  | .and _ _ => dataOp_sound _ _ _ _
  | .andi _ _ => dataOp_sound _ _ _ _
  | .andm _ _ => dataOp_sound _ _ _ _
  | .andb _ _ => dataOp_sound _ _ _ _
  | .andca _ _ => dataOp_sound _ _ _ _
  | .andcai _ _ => dataOp_sound _ _ _ _
  | .andcam _ _ => dataOp_sound _ _ _ _
  | .andcab _ _ => dataOp_sound _ _ _ _
  | .setm _ _ => dataOp_sound _ _ _ _
  | .xmovei a e => bodyXmovei_sound a e
  | .setmm _ _ => dataOp_sound _ _ _ _
  | .setmb _ _ => dataOp_sound _ _ _ _
  | .andcm _ _ => dataOp_sound _ _ _ _
  | .andcmi _ _ => dataOp_sound _ _ _ _
  | .andcmm _ _ => dataOp_sound _ _ _ _
  | .andcmb _ _ => dataOp_sound _ _ _ _
  | .seta _ _ => dataOp_sound _ _ _ _
  | .setai _ _ => dataOp_sound _ _ _ _
  | .setam _ _ => dataOp_sound _ _ _ _
  | .setab _ _ => dataOp_sound _ _ _ _
  | .xor _ _ => dataOp_sound _ _ _ _
  | .xori _ _ => dataOp_sound _ _ _ _
  | .xorm _ _ => dataOp_sound _ _ _ _
  | .xorb _ _ => dataOp_sound _ _ _ _
  | .ior _ _ => dataOp_sound _ _ _ _
  | .iori _ _ => dataOp_sound _ _ _ _
  | .iorm _ _ => dataOp_sound _ _ _ _
  | .iorb _ _ => dataOp_sound _ _ _ _
  | .andcb _ _ => dataOp_sound _ _ _ _
  | .andcbi _ _ => dataOp_sound _ _ _ _
  | .andcbm _ _ => dataOp_sound _ _ _ _
  | .andcbb _ _ => dataOp_sound _ _ _ _
  | .eqv _ _ => dataOp_sound _ _ _ _
  | .eqvi _ _ => dataOp_sound _ _ _ _
  | .eqvm _ _ => dataOp_sound _ _ _ _
  | .eqvb _ _ => dataOp_sound _ _ _ _
  | .setca _ _ => dataOp_sound _ _ _ _
  | .setcai _ _ => dataOp_sound _ _ _ _
  | .setcam _ _ => dataOp_sound _ _ _ _
  | .setcab _ _ => dataOp_sound _ _ _ _
  | .orca _ _ => dataOp_sound _ _ _ _
  | .orcai _ _ => dataOp_sound _ _ _ _
  | .orcam _ _ => dataOp_sound _ _ _ _
  | .orcab _ _ => dataOp_sound _ _ _ _
  | .setcm _ _ => dataOp_sound _ _ _ _
  | .setcmi _ _ => dataOp_sound _ _ _ _
  | .setcmm _ _ => dataOp_sound _ _ _ _
  | .setcmb _ _ => dataOp_sound _ _ _ _
  | .orcm _ _ => dataOp_sound _ _ _ _
  | .orcmi _ _ => dataOp_sound _ _ _ _
  | .orcmm _ _ => dataOp_sound _ _ _ _
  | .orcmb _ _ => dataOp_sound _ _ _ _
  | .orcb _ _ => dataOp_sound _ _ _ _
  | .orcbi _ _ => dataOp_sound _ _ _ _
  | .orcbm _ _ => dataOp_sound _ _ _ _
  | .orcbb _ _ => dataOp_sound _ _ _ _
  | .seto _ _ => dataOp_sound _ _ _ _
  | .setoi _ _ => dataOp_sound _ _ _ _
  | .setom _ _ => dataOp_sound _ _ _ _
  | .setob _ _ => dataOp_sound _ _ _ _
  | .hll _ _ => dataOp_sound _ _ _ _
  | .xhlli a e => bodyXhlli_sound a e
  | .hllm _ _ => dataOp_sound _ _ _ _
  | .hlls _ _ => dataOp_sound _ _ _ _
  | .hrl _ _ => dataOp_sound _ _ _ _
  | .hrli _ _ => dataOp_sound _ _ _ _
  | .hrlm _ _ => dataOp_sound _ _ _ _
  | .hrls _ _ => dataOp_sound _ _ _ _
  | .hllz _ _ => dataOp_sound _ _ _ _
  | .hllzi _ _ => dataOp_sound _ _ _ _
  | .hllzm _ _ => dataOp_sound _ _ _ _
  | .hllzs _ _ => dataOp_sound _ _ _ _
  | .hrlz _ _ => dataOp_sound _ _ _ _
  | .hrlzi _ _ => dataOp_sound _ _ _ _
  | .hrlzm _ _ => dataOp_sound _ _ _ _
  | .hrlzs _ _ => dataOp_sound _ _ _ _
  | .hllo _ _ => dataOp_sound _ _ _ _
  | .hlloi _ _ => dataOp_sound _ _ _ _
  | .hllom _ _ => dataOp_sound _ _ _ _
  | .hllos _ _ => dataOp_sound _ _ _ _
  | .hrlo _ _ => dataOp_sound _ _ _ _
  | .hrloi _ _ => dataOp_sound _ _ _ _
  | .hrlom _ _ => dataOp_sound _ _ _ _
  | .hrlos _ _ => dataOp_sound _ _ _ _
  | .hlle _ _ => dataOp_sound _ _ _ _
  | .hllei _ _ => dataOp_sound _ _ _ _
  | .hllem _ _ => dataOp_sound _ _ _ _
  | .hlles _ _ => dataOp_sound _ _ _ _
  | .hrle _ _ => dataOp_sound _ _ _ _
  | .hrlei _ _ => dataOp_sound _ _ _ _
  | .hrlem _ _ => dataOp_sound _ _ _ _
  | .hrles _ _ => dataOp_sound _ _ _ _
  | .hrr _ _ => dataOp_sound _ _ _ _
  | .hrri _ _ => dataOp_sound _ _ _ _
  | .hrrm _ _ => dataOp_sound _ _ _ _
  | .hrrs _ _ => dataOp_sound _ _ _ _
  | .hlr _ _ => dataOp_sound _ _ _ _
  | .hlri _ _ => dataOp_sound _ _ _ _
  | .hlrm _ _ => dataOp_sound _ _ _ _
  | .hlrs _ _ => dataOp_sound _ _ _ _
  | .hrrz _ _ => dataOp_sound _ _ _ _
  | .hrrzi _ _ => dataOp_sound _ _ _ _
  | .hrrzm _ _ => dataOp_sound _ _ _ _
  | .hrrzs _ _ => dataOp_sound _ _ _ _
  | .hlrz _ _ => dataOp_sound _ _ _ _
  | .hlrzi _ _ => dataOp_sound _ _ _ _
  | .hlrzm _ _ => dataOp_sound _ _ _ _
  | .hlrzs _ _ => dataOp_sound _ _ _ _
  | .hrro _ _ => dataOp_sound _ _ _ _
  | .hrroi _ _ => dataOp_sound _ _ _ _
  | .hrrom _ _ => dataOp_sound _ _ _ _
  | .hrros _ _ => dataOp_sound _ _ _ _
  | .hlro _ _ => dataOp_sound _ _ _ _
  | .hlroi _ _ => dataOp_sound _ _ _ _
  | .hlrom _ _ => dataOp_sound _ _ _ _
  | .hlros _ _ => dataOp_sound _ _ _ _
  | .hrre _ _ => dataOp_sound _ _ _ _
  | .hrrei _ _ => dataOp_sound _ _ _ _
  | .hrrem _ _ => dataOp_sound _ _ _ _
  | .hrres _ _ => dataOp_sound _ _ _ _
  | .hlre _ _ => dataOp_sound _ _ _ _
  | .hlrei _ _ => dataOp_sound _ _ _ _
  | .hlrem _ _ => dataOp_sound _ _ _ _
  | .hlres _ _ => dataOp_sound _ _ _ _
  | .trn _ _ => dataOp_sound _ _ _ _
  | .tln _ _ => dataOp_sound _ _ _ _
  | .trne _ _ => dataOp_sound _ _ _ _
  | .tlne _ _ => dataOp_sound _ _ _ _
  | .trna _ _ => dataOp_sound _ _ _ _
  | .tlna _ _ => dataOp_sound _ _ _ _
  | .trnn _ _ => dataOp_sound _ _ _ _
  | .tlnn _ _ => dataOp_sound _ _ _ _
  | .tdn _ _ => dataOp_sound _ _ _ _
  | .tsn _ _ => dataOp_sound _ _ _ _
  | .tdne _ _ => dataOp_sound _ _ _ _
  | .tsne _ _ => dataOp_sound _ _ _ _
  | .tdna _ _ => dataOp_sound _ _ _ _
  | .tsna _ _ => dataOp_sound _ _ _ _
  | .tdnn _ _ => dataOp_sound _ _ _ _
  | .tsnn _ _ => dataOp_sound _ _ _ _
  | .trz _ _ => dataOp_sound _ _ _ _
  | .tlz _ _ => dataOp_sound _ _ _ _
  | .trze _ _ => dataOp_sound _ _ _ _
  | .tlze _ _ => dataOp_sound _ _ _ _
  | .trza _ _ => dataOp_sound _ _ _ _
  | .tlza _ _ => dataOp_sound _ _ _ _
  | .trzn _ _ => dataOp_sound _ _ _ _
  | .tlzn _ _ => dataOp_sound _ _ _ _
  | .tdz _ _ => dataOp_sound _ _ _ _
  | .tsz _ _ => dataOp_sound _ _ _ _
  | .tdze _ _ => dataOp_sound _ _ _ _
  | .tsze _ _ => dataOp_sound _ _ _ _
  | .tdza _ _ => dataOp_sound _ _ _ _
  | .tsza _ _ => dataOp_sound _ _ _ _
  | .tdzn _ _ => dataOp_sound _ _ _ _
  | .tszn _ _ => dataOp_sound _ _ _ _
  | .trc _ _ => dataOp_sound _ _ _ _
  | .tlc _ _ => dataOp_sound _ _ _ _
  | .trce _ _ => dataOp_sound _ _ _ _
  | .tlce _ _ => dataOp_sound _ _ _ _
  | .trca _ _ => dataOp_sound _ _ _ _
  | .tlca _ _ => dataOp_sound _ _ _ _
  | .trcn _ _ => dataOp_sound _ _ _ _
  | .tlcn _ _ => dataOp_sound _ _ _ _
  | .tdc _ _ => dataOp_sound _ _ _ _
  | .tsc _ _ => dataOp_sound _ _ _ _
  | .tdce _ _ => dataOp_sound _ _ _ _
  | .tsce _ _ => dataOp_sound _ _ _ _
  | .tdca _ _ => dataOp_sound _ _ _ _
  | .tsca _ _ => dataOp_sound _ _ _ _
  | .tdcn _ _ => dataOp_sound _ _ _ _
  | .tscn _ _ => dataOp_sound _ _ _ _
  | .tro _ _ => dataOp_sound _ _ _ _
  | .tlo _ _ => dataOp_sound _ _ _ _
  | .troe _ _ => dataOp_sound _ _ _ _
  | .tloe _ _ => dataOp_sound _ _ _ _
  | .troa _ _ => dataOp_sound _ _ _ _
  | .tloa _ _ => dataOp_sound _ _ _ _
  | .tron _ _ => dataOp_sound _ _ _ _
  | .tlon _ _ => dataOp_sound _ _ _ _
  | .tdo _ _ => dataOp_sound _ _ _ _
  | .tso _ _ => dataOp_sound _ _ _ _
  | .tdoe _ _ => dataOp_sound _ _ _ _
  | .tsoe _ _ => dataOp_sound _ _ _ _
  | .tdoa _ _ => dataOp_sound _ _ _ _
  | .tsoa _ _ => dataOp_sound _ _ _ _
  | .tdon _ _ => dataOp_sound _ _ _ _
  | .tson _ _ => dataOp_sound _ _ _ _
  | .io r => bodyIo_sound r
  | .cmpsl _ _ _ _ => freeCompare_sound _ _ _ _
  | .cmpse _ _ _ _ => freeCompare_sound _ _ _ _
  | .cmpsle _ _ _ _ => freeCompare_sound _ _ _ _
  | .edit a e0 z e => bodyEdit_sound a e0 z e
  | .cmpsge _ _ _ _ => freeCompare_sound _ _ _ _
  | .cmpsn _ _ _ _ => freeCompare_sound _ _ _ _
  | .cmpsg _ _ _ _ => freeCompare_sound _ _ _ _
  | .cvtdbo _ _ _ _ => freeToBinary_sound _ _ _ _ _
  | .cvtdbt _ _ _ _ => freeToBinary_sound _ _ _ _ _
  | .cvtbdo _ _ _ _ => freeToDecimal_sound _ _ _ _ _
  | .cvtbdt _ _ _ _ => freeToDecimal_sound _ _ _ _ _
  | .movso a e0 z e => bodyMovso_sound a e0 z e
  | .movst a e0 z e => bodyMovst_sound a e0 z e
  | .movslj a e0 z e => bodyMovslj_sound a e0 z e
  | .movsrj a e0 z e => bodyMovsrj_sound a e0 z e
  | .xblt a e0 z e => bodyXblt_sound a e0 z e

/-- Every word's meaning is sound, whatever it executes in turn. -/
theorem execute_sound (n : Nat) : ∀ w, (execute n w).Sound := by
  induction n with
  | zero => exact fun _ _ _ _ _ _ => trivial
  | succ n ih =>
    intro w
    have : execute (n + 1) w = bodyOf (execute n) (decode w) := executeWith_eq _ w
    rw [this]
    exact bodyOf_sound ih _

/-- The meaning the step runs is sound. -/
theorem runWord_sound (w : Word) : (runWord w).Sound := execute_sound chainFuel w

/-- Every instruction's meaning, as `exec` runs it, is sound. -/
theorem exec_sound (i : Instr) : (bodyOf runWord i).Sound := bodyOf_sound runWord_sound i

end Sys2Proof.Machine
end

