-- ==== Sys2Proof/Tests/Slice0.lean ====
section
/-! SUPPORT. The model's own tests: the refused ill-formed term, words written from the encoding tables, one-step vectors of
spec/95_test_vectors.md, and for each statement with hypotheses a concrete state that meets them. -/

namespace Sys2Proof.Machine

-- One theorem at a time: the kernel evaluations below would else each hold a thread of their own.
set_option Elab.async false

/-! ## Helpers -/

/-- The state after reset with a PC, some physical words and some ACs of the current block. -/
def tState (pc : Nat) (mem acs : List (Nat × Nat)) : State :=
  let s := { State.reset with pc := BitVec.ofNat 30 pc }
  let s := mem.foldl (fun s q => s.put (.cell q.1) (BitVec.ofNat 36 q.2)) s
  acs.foldl (fun s q => s.setX (BitVec.ofNat 4 q.1) (BitVec.ofNat 36 q.2)) s

/-- The same in user mode. -/
def tUser (pc : Nat) (mem acs : List (Nat × Nat)) : State :=
  { tState pc mem acs with mode := .user, flags := 0o0200 }

/-- No trap entry supplied (60_exceptions.md R480). -/
def noEntries : TrapLayout := { luuo40 := none, luuoBlock := none, muuo := none, pageFail := none, newCab := none }

/-- The same machine without trap entries. -/
def noTraps (s : State) : State := { s with cfg := { s.cfg with traps := noEntries } }

/-- One step answers a next state of which `p` holds. -/
def gives (s : State) (p : State → Bool) : Bool :=
  match step s with
  | .next t => p t
  | _ => false

/-- `exec` answers a next state. -/
def isNext (o : Host.Outcome State Fault Refusal) : Bool :=
  match o with
  | .next _ => true
  | _ => false

/-- The refusal of one step. -/
def refusalOf (s : State) : Option Refusal :=
  match step s with
  | .refused r => some r
  | _ => none

/-- The fault of one step. -/
def faultOf (s : State) : Option Fault :=
  match step s with
  | .fault r => some r
  | _ => none

theorem exists_of_isNext {o : Host.Outcome State Fault Refusal} (h : isNext o = true) : ∃ t, o = .next t := by
  cases o with
  | next t => exact ⟨t, rfl⟩
  | fault r => cases h
  | refused r => cases h

theorem exists_of_gives {s : State} {p : State → Bool} (h : gives s p = true) : ∃ t, step s = .next t ∧ p t = true := by
  unfold gives at h
  cases ho : step s with
  | next t => exact ⟨t, rfl, by simpa [ho] using h⟩
  | fault r => simp [ho] at h
  | refused r => simp [ho] at h

/-! ## Well-formed terms -/

/-- A PXCT with a zero control field is ill-formed: its word is an XCT (30_encoding.md R116, R121). -/
theorem test_wellFormed_refuses_pxct_0 : (Instr.pxct 0 ⟨false, 0, 0o300⟩).wellFormed = false := by decide +kernel

theorem test_pxct_0_decodes_as_xct : decode (encode (.pxct 0 ⟨false, 0, 0o300⟩)) = .xct ⟨false, 0, 0o300⟩ := by
  decide +kernel

theorem test_wellFormed_accepts_pxct_17 : (Instr.pxct 0o17 ⟨true, 0o17, 0o777777⟩).wellFormed = true := by decide +kernel

/-! ## Words written from the encoding: OP in bits 0-8, AC 9-12, I 13, X 14-17, Y 18-35 (30_encoding.md R101) -/

theorem test_decode_move : decode 0o200062000100 = .move 1 ⟨true, 2, 0o100⟩ := by decide +kernel

theorem test_decode_movn : decode 0o210740777777 = .movn 0o17 ⟨false, 0, 0o777777⟩ := by decide +kernel

theorem test_decode_add : decode 0o270117000001 = .add 2 ⟨false, 0o17, 1⟩ := by decide +kernel

theorem test_decode_divb : decode 0o237140000005 = .divb 3 ⟨false, 0, 5⟩ := by decide +kernel

theorem test_decode_fmprb : decode 0o167043000004 = .fmprb 1 ⟨false, 3, 4⟩ := by decide +kernel

theorem test_decode_dfdv : decode 0o113220000200 = .dfdv 4 ⟨true, 0, 0o200⟩ := by decide +kernel

theorem test_decode_orcbm : decode 0o472240000300 = .orcbm 5 ⟨false, 0, 0o300⟩ := by decide +kernel

theorem test_decode_hlros : decode 0o567301000000 = .hlros 6 ⟨false, 1, 0⟩ := by decide +kernel

theorem test_decode_tsna : decode 0o615340000040 = .tsna 7 ⟨false, 0, 0o40⟩ := by decide +kernel

theorem test_decode_camge : decode 0o315040000002 = .camge 1 ⟨false, 0, 2⟩ := by decide +kernel

theorem test_decode_sosg : decode 0o377000000500 = .sosg 0 ⟨false, 0, 0o500⟩ := by decide +kernel

theorem test_decode_rotc : decode 0o245700777771 = .rotc 0o16 ⟨false, 0, 0o777771⟩ := by decide +kernel

theorem test_decode_jffo : decode 0o243100001000 = .jffo 2 ⟨false, 0, 0o1000⟩ := by decide +kernel

theorem test_decode_aobjn : decode 0o253140001001 = .aobjn 3 ⟨false, 0, 0o1001⟩ := by decide +kernel

theorem test_decode_ibp : decode 0o133000000300 = .ibp 0 ⟨false, 0, 0o300⟩ := by decide +kernel

theorem test_decode_idpb : decode 0o136040000006 = .idpb 1 ⟨false, 0, 6⟩ := by decide +kernel

theorem test_decode_sfm : decode 0o254600000007 = .sfm ⟨false, 0, 7⟩ := by decide +kernel

theorem test_decode_jra : decode 0o267040000010 = .jra 1 ⟨false, 0, 0o10⟩ := by decide +kernel

theorem test_decode_popj : decode 0o263740000000 = .popj 0o17 ⟨false, 0, 0⟩ := by decide +kernel

theorem test_decode_blt : decode 0o251042000077 = .blt 1 ⟨false, 2, 0o77⟩ := by decide +kernel

theorem test_decode_extend : decode 0o123200000600 = .extend 4 ⟨false, 0, 0o600⟩ := by decide +kernel

theorem test_decode_xct : decode 0o256000000020 = .xct ⟨false, 0, 0o20⟩ := by decide +kernel

theorem test_decode_jsys : decode 0o104000000151 = .jsys 0 ⟨false, 0, 0o151⟩ := by decide +kernel

theorem test_decode_map : decode 0o257160000001 = .map 3 ⟨true, 0, 1⟩ := by decide +kernel

theorem test_decode_luuo37 : decode 0o037740000020 = .luuo37 0o17 ⟨false, 0, 0o20⟩ := by decide +kernel

theorem test_decode_unassigned_247 : decode 0o247040000002 = .muuo247 1 ⟨false, 0, 2⟩ := by decide +kernel

theorem test_decode_io : decode 0o775777777777 = .io 0o75777777777 := by decide +kernel

/-- At E0 of an EXTEND with AC field 1, opcode 020 is XBLT and 021 selects nothing (30_encoding.md section 10). -/
theorem test_decode_xblt : decodeExt 1 ⟨0o600, .loc⟩ 0o020000000000 = some (.xblt 1 ⟨0o600, .loc⟩ 0 ⟨false, 0, 0⟩) ∧
    decodeExt 1 ⟨0o600, .loc⟩ 0o021000000000 = none := by decide +kernel

/-! ## Effective addresses (vectors of 95_test_vectors.md 2.1) -/

/-- EA2: a global index carries into the section; Y is sign-extended. -/
theorem test_ea_global_index : (tState 0o1000100 [] [(1, 0o2000000)]).eaOf ⟨false, 1, 0o777777⟩ = .ok ⟨0o1777777, .glob⟩ := by
  decide +kernel

/-- EA3: section 1 less 2 is the last word but one of section 0. -/
theorem test_ea_negative_y : (tState 0o1000100 [] [(1, 0o1000001)]).eaOf ⟨false, 1, 0o777776⟩ = .ok ⟨0o777777, .glob⟩ := by
  decide +kernel

/-- EA1: a local index adds in the right half only. -/
theorem test_ea_local_index : (tState 0o2000100 [] [(1, 0o777777000002)]).eaOf ⟨false, 1, 0o777777⟩ = .ok ⟨0o2000001, .loc⟩ := by
  decide +kernel

/-- EA7: in section zero an index is local whatever it holds. -/
theorem test_ea_section_zero : (tState 0o100 [] [(1, 0o5000010)]).eaOf ⟨false, 1, 0o100⟩ = .ok ⟨0o110, .loc⟩ := by
  decide +kernel

/-- EA12: an EFIW with a global index wraps over 30 bits. -/
theorem test_ea_efiw_wraps : (tState 0o1000100 [(0o1001000, 0o010000000001)] [(1, 0o7777777777)]).eaOf ⟨true, 0, 0o1000⟩ =
    .ok ⟨0, .glob⟩ := by decide +kernel

/-- EA13: an IFIW continues in the section of its indirect word. -/
theorem test_ea_chain : (tState 0o1000100 [(0o1001000, 0o200002000100), (0o2000100, 0o400020000300), (0o2000300, 0o4000500)]
    []).eaOf ⟨true, 0, 0o1000⟩ = .ok ⟨0o4000500, .glob⟩ := by decide +kernel

/-! ## One step each (vectors of 95_test_vectors.md) -/

/-- Vector EA14 of 95_test_vectors.md: a local result with in-section part 0 is AC 0. -/
theorem test_move_local_index_reaches_an_ac :
    gives (tState 0o1000100 [(0o1000100, 0o200120001000), (0o1001000, 0o400001777777)] [(1, 1), (0, 0o55)])
      (fun t => t.x 2 == 0o55) = true := by decide +kernel

/-- Vector S9c of 95_test_vectors.md: a global address 1,,5 is AC 5. -/
theorem test_move_global_section_one_is_an_ac :
    gives (tState 0o2000100 [(0o2000100, 0o200060001000), (0o2001000, 0o1000005), (0o1000005, 0o33)] [(5, 0o44)])
      (fun t => t.x 1 == 0o44) = true := by decide +kernel

/-- Vector G10 of 95_test_vectors.md. -/
theorem test_movei_takes_the_in_section_part :
    gives (tState 0o2000100 [(0o2000100, 0o201042777777)] [(2, 0o3000010)])
      (fun t => t.x 1 == 7) = true := by decide +kernel

/-- Vector S42 of 95_test_vectors.md: ConvE. -/
theorem test_xmovei_of_an_ac :
    gives (tState 0o2000100 [(0o2000100, 0o415040000006)] [])
      (fun t => t.x 1 == 0o1000006) = true := by decide +kernel

/-- Vector G2 of 95_test_vectors.md. -/
theorem test_xmovei_keeps_a_global_address :
    gives (tState 0o2000100 [(0o2000100, 0o415060001000), (0o2001000, 0o1000005)] [])
      (fun t => t.x 1 == 0o1000005) = true := by decide +kernel

/-- Vector G6 of 95_test_vectors.md: ConvE. -/
theorem test_xhlli_of_an_ac :
    gives (tState 0o2000100 [(0o2000100, 0o501040000006)] [(1, 0o777777000123)])
      (fun t => t.x 1 == 0o1000123) = true := by decide +kernel

/-- Vector G8 of 95_test_vectors.md. -/
theorem test_xhlli_in_section_zero :
    gives (tState 0o100 [(0o100, 0o501040000200)] [(1, 0o777777000123)])
      (fun t => t.x 1 == 0o123) = true := by decide +kernel

/-- Vector G11 of 95_test_vectors.md: AC 17, then memory 20. -/
theorem test_dmove_tests_each_reference :
    gives (tState 0o2000100 [(0o2000100, 0o120040000017), (0o2000020, 0o2020)] [(15, 0o1717)])
      (fun t => t.x 1 == 0o1717 && t.x 2 == 0o2020) = true := by decide +kernel

/-- Vector G12 of 95_test_vectors.md: A+1 modulo 16. -/
theorem test_dmove_of_ac_17_loads_ac_0 :
    gives (tState 0o2000100 [(0o2000100, 0o120740000300), (0o2000300, 1), (0o2000301, 2)] [])
      (fun t => t.x 15 == 1 && t.x 0 == 2) = true := by decide +kernel

/-- Vector G13 of 95_test_vectors.md. -/
theorem test_skipa_wraps_in_section :
    gives (tState 0o2777776 [(0o2777776, 0o334000000200)] [])
      (fun t => t.pc == 0o2000000) = true := by decide +kernel

/-- Vector G16 of 95_test_vectors.md. -/
theorem test_exch_with_an_ac :
    gives (tState 0o2000100 [(0o2000100, 0o250040000002)] [(1, 5), (2, 7)])
      (fun t => t.x 1 == 7 && t.x 2 == 5) = true := by decide +kernel

/-- Vector G17 of 95_test_vectors.md. -/
theorem test_setzb_stores_before_the_ac :
    gives (tState 0o2000100 [(0o2000100, 0o403160001000), (0o2001000, 0o3000006), (0o3000006, 0o55)] [(3, 1), (6, 2)])
      (fun t => t.x 3 == 0 && t.x 6 == 2 && Memory.read t.mem 0o3000006 == 0) = true := by decide +kernel

/-- Vector J1 of 95_test_vectors.md. -/
theorem test_jsp_in_section_zero :
    gives (tState 0o100 [(0o100, 0o265040000200)] [])
      (fun t => t.pc == 0o200 && t.x 1 == 0o101) = true := by decide +kernel

/-- Vector J11 of 95_test_vectors.md. -/
theorem test_jsp_at_the_end_of_a_section :
    gives (tState 0o3777777 [(0o3777777, 0o265040000200)] [])
      (fun t => t.pc == 0o3000200 && t.x 1 == 0o3000000) = true := by decide +kernel

/-- Vector S25 of 95_test_vectors.md. -/
theorem test_jsr_across_sections :
    gives (tState 0o2000100 [(0o2000100, 0o264020001000), (0o2001000, 0o3000200)] [])
      (fun t => t.pc == 0o3000201 && Memory.read t.mem 0o3000200 == 0o2000101) = true := by decide +kernel

/-- Vector J5 of 95_test_vectors.md: the jump is to Inc(E). -/
theorem test_jsr_at_ac_17 :
    gives (tState 0o2000100 [(0o2000100, 0o264000000017)] [])
      (fun t => t.pc == 0o2000020 && t.x 15 == 0o2000101) = true := by decide +kernel

/-- Vector J6 of 95_test_vectors.md. -/
theorem test_jsa :
    gives (tState 0o2000100 [(0o2000100, 0o266040000300)] [(1, 7)])
      (fun t => t.pc == 0o2000301 && t.x 1 == 0o300000101 && Memory.read t.mem 0o2000300 == 7) = true := by decide +kernel

/-- Vector J7 of 95_test_vectors.md. -/
theorem test_jsa_at_the_end_of_a_section :
    gives (tState 0o2000100 [(0o2000100, 0o266040777777)] [(1, 7)])
      (fun t => t.pc == 0o2000000 && t.x 1 == 0o777777000101 && Memory.read t.mem 0o2777777 == 7) = true := by decide +kernel

/-- Vector J10 of 95_test_vectors.md. -/
theorem test_jra :
    gives (tState 0o2000100 [(0o2000100, 0o267040000500)] [(1, 0o5000777), (5, 0o4444)])
      (fun t => t.pc == 0o2000500 && t.x 1 == 0o4444) = true := by decide +kernel

/-- Vector J8 of 95_test_vectors.md. -/
theorem test_jrst_to_another_section :
    gives (tState 0o2000100 [(0o2000100, 0o254020001000), (0o2001000, 0o3000500)] [])
      (fun t => t.pc == 0o3000500) = true := by decide +kernel

/-- Vector J9 of 95_test_vectors.md. -/
theorem test_jrst_in_section_zero_stays_there :
    gives (tState 0o100 [(0o100, 0o254020001000), (0o1000, 0o3000500)] [])
      (fun t => t.pc == 0o500) = true := by decide +kernel

/-- Vector J3 of 95_test_vectors.md. -/
theorem test_xjrst_drops_bits_0_to_5 :
    gives (tState 0o100 [(0o100, 0o254640001000), (0o1000, 0o770003000400)] [])
      (fun t => t.pc == 0o3000400) = true := by decide +kernel

/-- Vector XJRSTF of 95_test_vectors.md. -/
theorem test_xjrstf :
    gives (tState 0o100 [(0o100, 0o254240000200), (0o201, 0o3000400)] [])
      (fun t => t.pc == 0o3000400) = true := by decide +kernel

/-- Vector K1 of 95_test_vectors.md. -/
theorem test_push_local :
    gives (tState 0o2000100 [(0o2000100, 0o261740000300), (0o2000300, 0o33)] [(15, 0o500)])
      (fun t => t.x 15 == 0o1000501 && Memory.read t.mem 0o2000501 == 0o33) = true := by decide +kernel

/-- Vector K1b of 95_test_vectors.md. -/
theorem test_push_global :
    gives (tState 0o2000100 [(0o2000100, 0o261740000300), (0o2000300, 0o33)] [(15, 0o1000501)])
      (fun t => t.x 15 == 0o1000502 && Memory.read t.mem 0o1000502 == 0o33 && Memory.read t.mem 0o2000502 == 0) = true := by decide +kernel

/-- Vector K2 of 95_test_vectors.md. -/
theorem test_pop_global_borrows_into_the_section :
    gives (tState 0o2000100 [(0o2000100, 0o262740000300), (0o3000000, 0o44)] [(15, 0o3000000)])
      (fun t => t.x 15 == 0o2777777 && Memory.read t.mem 0o2000300 == 0o44) = true := by decide +kernel

/-- Vector K10 of 95_test_vectors.md: halves step independently. -/
theorem test_pop_local_from_ac_0 :
    gives (tState 0o2000100 [(0o2000100, 0o262740000300)] [(15, 0o1000000), (0, 0o777)])
      (fun t => t.x 15 == 0o777777 && Memory.read t.mem 0o2000300 == 0o777) = true := by decide +kernel

/-- Vector K5 of 95_test_vectors.md. -/
theorem test_pushj_in_section_zero :
    gives (tState 0o100 [(0o100, 0o260740000400)] [(15, 0o777700000200)])
      (fun t => t.pc == 0o400 && t.x 15 == 0o777701000201 && Memory.read t.mem 0o201 == 0o101) = true := by decide +kernel

/-- Vector K4 of 95_test_vectors.md. -/
theorem test_popj_in_section_zero :
    gives (tState 0o100 [(0o100, 0o263740000000), (0o201, 0o2000102)] [(15, 0o777701000201)])
      (fun t => t.pc == 0o102 && t.x 15 == 0o777700000200) = true := by decide +kernel

/-- Vector K9 of 95_test_vectors.md. -/
theorem test_popj_to_bits_6_to_35 :
    gives (tState 0o2000100 [(0o2000100, 0o263740000000), (0o2000201, 0o300000000102)] [(15, 0o777701000201)])
      (fun t => t.pc == 0o102 && t.x 15 == 0o777700000200) = true := by decide +kernel

/-- Vector LUUO40 of 95_test_vectors.md: a JSR at 41 stores the LUUO's PC+1. -/
theorem test_luuo_in_section_zero :
    gives (tState 0o100 [(0o100, 0o1100000010), (0o41, 0o264000000200)] [])
      (fun t => t.pc == 0o201 && Memory.read t.mem 0o40 == 0o1100000010 && Memory.read t.mem 0o200 == 0o101) = true := by decide +kernel

/-- Vector LUUOBLK of 95_test_vectors.md. -/
theorem test_luuo_block :
    gives (tState 0o3000100 [(0o3000100, 0o37740000020), (0o420, 0o5000600), (0o5000603, 0o6000700)] [])
      (fun t => t.pc == 0o6000700 && Memory.read t.mem 0o5000600 == 0o37740 && Memory.read t.mem 0o5000601 == 0o3000101 && Memory.read t.mem 0o5000602 == 0o3000020) = true := by decide +kernel

/-- Vector B3 of 95_test_vectors.md. -/
theorem test_blt_overlap_replicates :
    gives (tState 0o2000100 [(0o2000100, 0o251040000205), (0o2000200, 7), (0o2000201, 1), (0o2000202, 2), (0o2000205, 5), (0o2000206, 6)] [(1, 0o200000201)])
      (fun t => Memory.read t.mem 0o2000201 == 7 && Memory.read t.mem 0o2000202 == 7 && Memory.read t.mem 0o2000203 == 7 && Memory.read t.mem 0o2000204 == 7 && Memory.read t.mem 0o2000205 == 7 && Memory.read t.mem 0o2000206 == 6) = true := by decide +kernel

/-- Vector B5 of 95_test_vectors.md. -/
theorem test_blt_into_acs_wraps_in_section :
    gives (tState 0o2000100 [(0o2000100, 0o251240000012), (0o2777777, 0o76)] [(5, 0o777777000010), (0, 0o1000), (1, 0o1001)])
      (fun t => t.x 8 == 0o76 && t.x 9 == 0o1000 && t.x 10 == 0o1001) = true := by decide +kernel

/-- Vector X1 of 95_test_vectors.md. -/
theorem test_xblt_across_sections :
    gives (tState 0o100 [(0o100, 0o123040001000), (0o1000, 0o20000000000), (0o2777777, 0o71), (0o3000000, 0o72)] [(1, 2), (2, 0o2777777), (3, 0o4777777)])
      (fun t => t.pc == 0o101 && t.x 1 == 0 && t.x 2 == 0o3000001 && t.x 3 == 0o5000001 && Memory.read t.mem 0o4777777 == 0o71 && Memory.read t.mem 0o5000000 == 0o72) = true := by decide +kernel

/-- Vector X4 of 95_test_vectors.md: global section 1 is the ACs. -/
theorem test_xblt_into_its_acs_neighbours :
    gives (tState 0o2000100 [(0o2000100, 0o123200001000), (0o2001000, 0o20000000000), (5, 0o505), (6, 0o606)] [(4, 2), (5, 5), (6, 0o1000010)])
      (fun t => t.x 8 == 0o505 && t.x 9 == 0o606 && t.x 4 == 0 && t.x 5 == 7 && t.x 6 == 0o1000012) = true := by decide +kernel

/-- Vector Y2 of 95_test_vectors.md. -/
theorem test_ldb_two_word_global_pointer :
    gives (tState 0o2000100 [(0o2000100, 0o135040000300), (0o2000300, 0o1140000777), (0o2000301, 0o3000400), (0o3000400, 0o765)] [])
      (fun t => t.x 1 == 0o765) = true := by decide +kernel

/-- Vector Y14 of 95_test_vectors.md. -/
theorem test_ldb_one_word_global_pointer :
    gives (tState 0o100 [(0o100, 0o135040000300), (0o300, 0o620002000400), (0o2000400, 0o406050342212)] [])
      (fun t => t.x 1 == 0o101) = true := by decide +kernel

/-- Vector Y5 of 95_test_vectors.md. -/
theorem test_ildb_pointer_in_an_ac :
    gives (tState 0o2000100 [(0o2000100, 0o134040000002), (0o2000400, 0o406050000000)] [(2, 0o440700000400)])
      (fun t => t.x 1 == 0o101 && t.x 2 == 0o350700000400) = true := by decide +kernel

/-- Vector Y6 of 95_test_vectors.md. -/
theorem test_ildb_steps_within_the_right_half :
    gives (tState 0o2000100 [(0o2000100, 0o134040000300), (0o2000300, 0o10700777777)] [(0, 0o406050000000)])
      (fun t => t.x 1 == 0o101 && Memory.read t.mem 0o2000300 == 0o350700000000) = true := by decide +kernel

/-- Vector Y7 of 95_test_vectors.md. -/
theorem test_dpb_keeps_the_other_bits :
    gives (tState 0o2000100 [(0o2000100, 0o137040000300), (0o2000300, 0o600000005)] [(1, 0o1277), (5, 0o777777777700)])
      (fun t => t.x 1 == 0o1277 && t.x 5 == 0o777777777777) = true := by decide +kernel

/-- Vector Y8 of 95_test_vectors.md. -/
theorem test_idpb :
    gives (tState 0o2000100 [(0o2000100, 0o136040000300), (0o2000300, 0o440700000400)] [(1, 0o101)])
      (fun t => Memory.read t.mem 0o2000300 == 0o350700000400 && Memory.read t.mem 0o2000400 == 0o404000000000) = true := by decide +kernel

/-- Vector Y9 of 95_test_vectors.md. -/
theorem test_ibp_moves_to_the_next_word :
    gives (tState 0o2000100 [(0o2000100, 0o133000000300), (0o2000300, 0o10700000400)] [])
      (fun t => Memory.read t.mem 0o2000300 == 0o350700000401) = true := by decide +kernel

/-- Vector E1 of 95_test_vectors.md. -/
theorem test_movslj_fills :
    gives (tState 0o3000100 [(0o3000100, 0o123040000600), (0o3000600, 0o16000000000), (0o3000200, 0o406040000000), (0o3000601, 0o40)] [(1, 2), (2, 0o440700000200), (4, 4), (5, 0o440700000300)])
      (fun t => t.pc == 0o3000102 && t.x 1 == 0 && t.x 4 == 0 && t.x 2 == 0o260700000200 && t.x 5 == 0o100700000300 && Memory.read t.mem 0o3000300 == 0o406044020000) = true := by decide +kernel

/-- Vector E2 of 95_test_vectors.md. -/
theorem test_movslj_stops_at_the_destination :
    gives (tState 0o3000100 [(0o3000100, 0o123040000600), (0o3000600, 0o16000000000), (0o3000200, 0o406050342212)] [(1, 5), (2, 0o440700000200), (4, 3), (5, 0o440700000300)])
      (fun t => t.pc == 0o3000101 && t.x 1 == 2 && t.x 4 == 0 && t.x 2 == 0o170700000200 && t.x 5 == 0o170700000300 && Memory.read t.mem 0o3000300 == 0o406050300000) = true := by decide +kernel

/-- Vector T2 of 95_test_vectors.md. -/
theorem test_xct_chain_takes_the_section_of_the_word :
    gives (tState 0o3000100 [(0o3000100, 0o256020001000), (0o3001000, 0o2000100), (0o2000100, 0o256020000150), (0o2000150, 0o4000200), (0o4000200, 0o265040000300)] [])
      (fun t => t.pc == 0o4000300 && t.x 1 == 0o3000101) = true := by decide +kernel

/-- Vector T4 of 95_test_vectors.md. -/
theorem test_xct_in_section_zero :
    gives (tState 0o3000100 [(0o3000100, 0o256020001000), (0o3001000, 0o200), (0o200, 0o200060000300), (0o300, 0o2000400), (0o401, 0o41), (0o2000400, 0o24)] [(2, 1)])
      (fun t => t.pc == 0o3000101 && t.x 1 == 0o41) = true := by decide +kernel

/-- Vector P1 of 95_test_vectors.md. -/
theorem test_pxct_data_in_previous_context :
    gives { tState 0o2000100 [(0o2000100, 0o256200001000), (0o2001000, 0o200060001001), (0o2001001, 0o5000300), (0o10005000300, 0o53)] [] with pcs := 3, pab := 1, pcu := true }
      (fun t => t.x 1 == 0o53) = true := by decide +kernel

/-- Vector P2 of 95_test_vectors.md. -/
theorem test_pxct_immediate_in_previous_context :
    gives (State.setAc { tState 0o2000100 [(0o2000100, 0o256400001000), (0o2001000, 0o415041000010)] [(1, 0o777777000000)] with pcs := 3, pab := 1, pcu := true } 1 1 0o4000100)
      (fun t => t.x 1 == 0o4000110) = true := by decide +kernel

/-! ## One step each: stops, and instructions whose result is a free value -/

/-- Vector S28a: JSA to another section is refused. -/
theorem test_jsa_inter_section : refusalOf (tState 0o2000100 [(0o2000100, 0o266060001000), (0o2001000, 0o3000200)] []) =
    some .jsaInterSection := by decide +kernel

/-- Vector X3: XBLT with a negative count is refused. -/
theorem test_xblt_negative : refusalOf (tState 0o100 [(0o100, 0o123040001000), (0o1000, 0o020000000000)]
    [(1, 0o777777777776), (2, 0o2000100), (3, 0o4000100)]) = some .xbltNegativeCount := by decide +kernel

/-- Vector F1, with no trap entries: a section at or above NSECT page fails. -/
theorem test_page_fail : faultOf { tState 0o2000100 [(0o2000100, 0o200060001000), (0o2001000, 0o40000000)] [] with
      cfg := { Config.kl10 with traps := noEntries } } =
    some (.terminalTrap ⟨.pageFail, some .ept, some (0o200, 1), none, 0o40000000, 0⟩) := by decide +kernel

/-- Vector MUUO of 2.6, with no trap entries: opcode, AC field, PC+1 and ConvE(E). -/
theorem test_muuo : faultOf (noTraps (tState 0o3000100 [(0o3000100, 0o040740000020)] [])) =
    some (.terminalTrap ⟨.muuo, some .upt, some (0o040, 0o17), some 0o3000101, 0o3000020, 0⟩) := by decide +kernel

/-- ADD leaves memory and every other AC alone and goes on. -/
theorem test_add_frame : gives (tState 0o2000100 [(0o2000100, 0o270040000200), (0o2000200, 7)] [(1, 5), (2, 6)])
    (fun t => t.pc == 0o2000101 && t.x 2 == 6 && Memory.read t.mem 0o2000200 == 7) = true := by decide +kernel

/-- DFN reads E and makes no write reference (R400): the word at E and AC A+1 keep their values. -/
theorem test_dfn_reads_only : gives (tState 0o2000100 [(0o2000100, 0o131040000200), (0o2000200, 7)] [(1, 5), (2, 6)])
    (fun t => t.pc == 0o2000101 && t.x 2 == 6 && Memory.read t.mem 0o2000200 == 7) = true := by decide +kernel

/-- HRRM leaves its AC alone. -/
theorem test_hrrm_frame : gives (tState 0o2000100 [(0o2000100, 0o542040000200), (0o2000200, 7)] [(1, 5)])
    (fun t => t.pc == 0o2000101 && t.x 1 == 5) = true := by decide +kernel

/-- SKIP with AC field 0 loads no AC. -/
theorem test_skip_frame : gives (tState 0o2000100 [(0o2000100, 0o330000000200), (0o2000200, 7)] [(0, 5)])
    (fun t => t.x 0 == 5 && Memory.read t.mem 0o2000200 == 7) = true := by decide +kernel

/-- MOVEM and an AC as destination. -/
theorem test_movem_to_ac : gives (tState 0o2000100 [(0o2000100, 0o202040000017)] [(1, 5)])
    (fun t => t.pc == 0o2000101 && t.x 0o17 == 5 && t.x 1 == 5) = true := by decide +kernel

/-- DMOVEM reads both ACs, then stores at E and Inc(E); AC 17 pairs with AC 0. -/
theorem test_dmovem_wraps : gives (tState 0o2000100 [(0o2000100, 0o124740000300)] [(0o17, 5), (0, 6)])
    (fun t => Memory.read t.mem 0o2000300 == 5 && Memory.read t.mem 0o2000301 == 6) = true := by decide +kernel

/-- ADJSP on a local pointer steps both halves. -/
theorem test_adjsp_local : gives (tState 0o2000100 [(0o2000100, 0o105040777776)] [(1, 0o777700000001)])
    (fun t => t.x 1 == 0o777676777777) = true := by decide +kernel

/-- Vector J2, with no trap entries: JRSTF in a non-zero section is an MUUO. -/
theorem test_jrstf_nonzero_section : faultOf (noTraps (tState 0o2000100 [(0o2000100, 0o254100000200)] [])) =
    some (.terminalTrap ⟨.muuo, some .upt, some (0o254, 2), some 0o2000101, 0o2000200, 0⟩) := by decide +kernel

/-- JRSTF in section zero takes the flags of its indirect word; user mode is entered. -/
theorem test_jrstf_enters_user_mode : gives (tState 0o100 [(0o100, 0o254120000200), (0o200, 0o010000000300)] [])
    (fun t => t.pc == 0o300 && t.mode == .user && userFlag t.flags) = true := by decide +kernel

/-- An input-output instruction in user mode is an MUUO; its E, AC 0, is converted. -/
theorem test_io_in_user_mode : faultOf (noTraps (tUser 0o2000100 [(0o10002000100, 0o700000000000)] [])) =
    some (.terminalTrap ⟨.muuo, some .upt, some (0o700, 0), some 0o2000101, 0o1000000, 0o0200⟩) := by decide +kernel

/-- HALT in exec mode is refused. -/
theorem test_halt_exec : refusalOf (tState 0o2000100 [(0o2000100, 0o254200000200)] []) = some .jrstFunctionNotDescribed := by
  decide +kernel

/-- The word that `withFetchWord` places is what the next step runs. -/
theorem test_withFetchWord : gives (State.reset.withFetchWord 36 0o201040000123) (fun t => t.x 1 == 0o123) = true := by
  decide +kernel

/-- The table's bits are those of the 36-bit word. -/
theorem test_decodeTableWord : (decodeTableWord 40 0o270102000001).isSome = true := by decide +kernel

/-! ## For each statement with hypotheses, a state that meets them -/

/-- Exec mode, PC 2,,100, words at 2,,200 to 2,,203, a MOVE at PC. -/
def w2 : State := tState 0o2000100 [(0o2000100, 0o200040000200), (0o2000200, 5), (0o2000201, 6)] [(2, 0o3000300), (3, 0o2000017)]
/-- The same machine with PC 0,,100. -/
def w0 : State := tState 0o100 [(0o100, 0o200040000200), (0o200, 0o600000000300), (0o201, 0o20000200)] [(1, 0o5000300), (2, 0o3000300)]
/-- A machine that refuses what the spec's own choices refuse (log 47). -/
def ruled (s : State) : State := { s with cfg := { s.cfg with rulings := .refuse } }
/-- A machine that refuses stack overflow. -/
def refusing (s : State) : State := { s with cfg := { s.cfg with stackOverflow := .refuse } }
/-- The KL10's sections. -/
def w32 : State := { tState 0o2000100 [(0o2000200, 0o40000300)] [] with cfg := Config.kl10 }

/-- The address fields of E = 200 in PC section. -/
abbrev e200 : AddrFields := ⟨false, 0, 0o200⟩
/-- Those of an indirect reference through 200. -/
abbrev i200 : AddrFields := ⟨true, 0, 0o200⟩
/-- Those of an indirect reference through 300. -/
abbrev e300i : AddrFields := ⟨true, 0, 0o300⟩
/-- 2,,200. -/
abbrev r200 : EA := ⟨0o2000200, .loc⟩
/-- 0,,200. -/
abbrev z200 : EA := ⟨0o200, .loc⟩
/-- The word at 2,,200. -/
abbrev c200 : Loc := .cell 0o2000200
/-- The word at 2,,201. -/
abbrev c201 : Loc := .cell 0o2000201

theorem witness_DecodeEncode : (Instr.pxct 0o17 e200).wellFormed = true ∧ (Instr.pxct 0o17 e200).extendAc = none ∧
    (Instr.movslj 1 r200 0 e200).extendAc = some 1 := by decide +kernel

theorem witness_EncodeDecode : decodeExt 1 r200 0o016000000200 = some (.movslj 1 r200 0 e200) := by decide +kernel

theorem witness_StepRunsDecoded : w2.fetch = .ok 0o200040000200 ∧ w2.cfg.opcodes.ops = [] ∧ w2.cfg.opcodes.jrst = [] ∧
    ({ w32 with pc := 0o40000100 } : State).fetch = .error ⟨⟨0o40000100, .loc⟩, .cur, .noSection⟩ ∧
    w32.cfg.traps.pageFail = some .pageFailSketch := by decide +kernel

theorem w2_inv : w2.Inv := ⟨by decide +kernel, by decide +kernel, by decide +kernel, by unfold configInRange; decide +kernel⟩

theorem witness_StepKeepsInv : w2.Inv ∧ ∃ t, step w2 = .next t ∧ (t.x 1 == 5) = true :=
  ⟨w2_inv, exists_of_gives (by decide +kernel)⟩

/-- Both disjuncts: a MOVE, and an MUUO. -/
theorem witness_ContextChangesOnlyByTrap : (∃ t, step w2 = .next t ∧ (t.mode == .exec && t.pcs == 0) = true) ∧
    ∃ t, step (tState 0o2000100 [(0o2000100, 0o040000000000)] []) = .next t ∧ (t.pcs == 2) = true :=
  ⟨exists_of_gives (by decide +kernel), exists_of_gives (by decide +kernel)⟩

/-- A user's program: MOVEM 1,200 at PC. -/
def wUser : State := tUser 0o2000100 [(0o10002000100, 0o202040000200)] [(1, 5)]

theorem wUser_inv : wUser.Inv :=
  ⟨by decide +kernel, by decide +kernel, by decide +kernel, by unfold configInRange; decide +kernel⟩

theorem witness_UserModeLeftOnlyByTrap : wUser.Inv ∧ wUser.mode = .user ∧
    (∃ t, step wUser = .next t ∧ (t.mode == .user) = true) ∧
    ∃ t, step (tUser 0o2000100 [] []) = .next t ∧ (t.mode == .exec) = true :=
  ⟨wUser_inv, by decide +kernel, exists_of_gives (by decide +kernel), exists_of_gives (by decide +kernel)⟩

/-- An entry in a block: the flags word, the address and PC+1 in its words 2, 0 and 5, the new PC in word 7 or, from user mode, 6. -/
def blockEntry (b : BlockPointer) : TrapEntry :=
  { base := .block b
    words := [⟨2, [⟨.flags, 17⟩, ⟨.opcode, 26⟩]⟩, ⟨0, [⟨.user, 0⟩, ⟨.address, 35⟩]⟩, ⟨5, [⟨.pcNext, 35⟩]⟩]
    newPc := { base := .block b, exec := 7, execPublic := 7, user := 6, userPublic := 6 } }

/-- The user's machine, with its MUUO block reached through UPT word 424 as an exec-virtual address. -/
def wUserBlock : State :=
  { wUser with cfg := { wUser.cfg with traps := { wUser.cfg.traps with muuo := some (blockEntry ⟨none, 0o424, some .exec⟩) } } }

theorem wUser_noBlocks {b : BlockPointer} : ¬pointsBlock wUser.cfg b := by
  have h : wUser.cfg.traps.muuo = some .muuoSketch ∧ wUser.cfg.traps.pageFail = some .pageFailSketch := by decide +kernel
  rintro ⟨en, hen, hb⟩
  rw [hasEntry, h.1, h.2] at hen
  rcases hen with hen | hen <;> · rw [← Option.some.inj hen] at hb; cases hb

theorem wUserBlock_blocks {b : BlockPointer} (h : pointsBlock wUserBlock.cfg b) : b.space ≠ none := by
  have hp : wUserBlock.cfg.traps.pageFail = some .pageFailSketch := by decide +kernel
  obtain ⟨en, hen, hb⟩ := h
  rcases hen with hen | hen
  · rw [← Option.some.inj hen] at hb
    cases hb
    simp
  · rw [hp] at hen
    rw [← Option.some.inj hen] at hb
    cases hb

theorem witness_StepsStayInTheirSpace : wUser.mode = .user ∧ (1 : BlockNum) ≠ wUser.cab ∧
    (∀ b, pointsBlock wUser.cfg b → b.space ≠ none) ∧ (∀ b, pointsBlock wUserBlock.cfg b → b.space ≠ none) ∧
    (∃ t, step wUser = .next t ∧
      (Memory.read t.mem 0o10002000200 != Memory.read wUser.mem 0o10002000200) = true) ∧
    (∃ t, step w2 = .next t ∧ true = true) ∧ (1 : BlockNum) ≠ w2.cab ∧ (1 : BlockNum) ≠ w2.pab :=
  ⟨rfl, by decide +kernel, fun _ hb => absurd hb wUser_noBlocks, fun _ => wUserBlock_blocks, exists_of_gives (by decide +kernel),
    exists_of_gives (p := fun _ => true) (by decide +kernel), by decide +kernel⟩

/-- At the boundaries 17 and 20 of the in-section part, and sections 1 and 2. -/
theorem witness_AcReferences : isAcRef ⟨0o2000017, .loc⟩ = true ∧ isAcRef ⟨0o1000017, .glob⟩ = true ∧
    isAcRef ⟨0o2000020, .loc⟩ = false ∧ isAcRef ⟨0o1000020, .glob⟩ = false ∧ isAcRef ⟨0o2000017, .glob⟩ = false := by
  decide +kernel

theorem witness_Increment : (0o7777777776 : Addr).toNat < 2 ^ 30 - 1 := by decide +kernel

theorem witness_FetchIsLocal : (offOf ({ w2 with pc := 0o2000017 } : State).pc).toNat ≤ 0o17 ∧
    0o17 < (offOf ({ w2 with pc := 0o2000020 } : State).pc).toNat ∧
    (secOf ({ w2 with pc := 0o2000020 } : State).pc).toNat < w2.cfg.nsect ∧
    mapLookup (w2.space .cur) 0o2000020 .fetch w2.cfg.map = some 0o2000020 := by decide +kernel

theorem witness_UnimplementedSectionPageFails : isAcRef ⟨0o40000300, .glob⟩ = false ∧
    w32.cfg.nsect ≤ (secOf (0o40000300 : Addr)).toNat ∧ w32.eaOf i200 = .ok ⟨0o40000300, .glob⟩ ∧
    w32.cfg.traps.pageFail = some .pageFailSketch := by decide +kernel

theorem witness_WriteThenRead : Memory.wf w2.mem = true ∧ w2.memWrite r200 .cur 7 = .ok (w2.put c200 7) ∧
    w2.atIn .cur r200 c200 ∧ w2.locate (inc r200) .cur .read = .ok c201 ∧ c201 ≠ c200 := by decide +kernel

/-- Index 2 is global (section 3), and local by bit 0, by section field 0 and by section zero. -/
theorem witness_EaCalcIteration : (2 : AcNum) ≠ 0 ∧
    ¬((2 : Sec) = 0 ∨ bitAt (w2.xr 2 .cur) 0 = true ∨ secField (w2.xr 2 .cur) = 0) ∧
    bitAt ((w2.setX 2 0o400003000300).xr 2 .cur) 0 = true ∧ secField ((w2.setX 2 0o300).xr 2 .cur) = 0 := by decide +kernel

/-- A chain of one link that ends, and the endless one. -/
theorem witness_IndirectWords : (AddrWord.ifiw i200).ind = true ∧
    w2.memRead (eaIter (.ifiw i200) 2 (w2.xr 0 .cur)) .cur = .ok 5 ∧
    classify 5 (secOf (eaIter (.ifiw i200) 2 (w2.xr 0 .cur)).addr) = some (.efiw false 0 5) ∧
    (AddrWord.efiw false 0 5).ind = false ∧ w2.eaCalc (.ifiw i200) 2 .cur = .ok ⟨5, .glob⟩ ∧
    w0.pcSec = 0 ∧ fieldsOf 0o20000200 = ⟨true, 0, 0o200⟩ ∧
    (w0.put (.cell 0o200) 0o20000200).memRead ⟨mkAddr 0 0o200, .loc⟩ .cur = .ok 0o20000200 := by decide +kernel

/-- 2,,200 holds an indirect word through 2,,300, which holds an illegal one. -/
def wI : State := tState 0o2000100 [(0o2000200, 0o400020000300), (0o2000300, 0o600000000000)] []
/-- 3,,100, the word a PXCT at PC executes through 2,,200, is `w`; the previous context is the user's section 4. -/
def wIP (w : Word) (more : List (Nat × Nat)) : State :=
  { tState 0o2000100 ([(0o2000200, 0o3000100), (0o3000100, w.toNat)] ++ more) [] with pcs := 4, pcu := true, pab := 1 }

/-- The word at 2,,300 is illegal. -/
theorem wI_meets : wI.meetsIllegal .cur (.ifiw e300i) 2 :=
  ⟨by decide +kernel, by decide +kernel, 0o600000000000, by decide +kernel⟩

/-- 2,,200 leads to it. -/
theorem wI_chain : wI.chains .cur 1 (.ifiw i200) wI.pcSec 0 (.ifiw e300i) 2 0o400020000300 :=
  ⟨0o400020000300, .ifiw e300i, rfl, by decide +kernel, by decide +kernel, rfl, by decide +kernel, rfl⟩

/-- No link and one link before the illegal word; the same in previous context; a two-word pointer, and one under PXCT 3. -/
theorem witness_IllegalIndirectWord : wI.meetsIllegal .cur (.ifiw e300i) 2 ∧
    wI.chains .cur 0 (.ifiw e300i) 2 0 (.ifiw e300i) 2 0 ∧
    wI.chains .cur 1 (.ifiw i200) wI.pcSec 0 (.ifiw e300i) 2 0o400020000300 ∧ 1 < eaFuel ∧
    wI.cfg.traps.pageFail = some .pageFailSketch ∧
    (let s := wIP 0o200060000200 [(0o10004000200, 0o600000000000)]
     s.mode = .exec ∧ s.eaOf i200 = .ok ⟨0o3000100, .glob⟩ ∧ s.memRead ⟨0o3000100, .glob⟩ .cur = .ok 0o200060000200 ∧
       decode (standardWord s.cfg.opcodes 0o200060000200) = .move 1 i200 ∧ s.chains .prev 0 (.ifiw i200) s.pcs 0 (.ifiw i200) 4 0 ∧
       s.meetsIllegal .prev (.ifiw i200) 4) ∧
    (let s := tState 0o2000100 [(0o2000300, 0o300640000000), (0o2000301, 0o600000000000)] []
     s.eaOf ⟨false, 0, 0o300⟩ = .ok ⟨0o2000300, .loc⟩ ∧ s.memRead ⟨0o2000300, .loc⟩ .cur = .ok 0o300640000000 ∧
       decodeBP 0o300640000000 (secOf 0o2000300) = .twoGlobal ∧ s.mayInc ⟨0o2000300, .loc⟩ ∧ s.memRead (inc ⟨0o2000300, .loc⟩) .cur = .ok 0o600000000000 ∧
       secOf (inc ⟨0o2000300, .loc⟩).addr ≠ 0) ∧
    (let s := wIP 0o135040000300 [(0o3000300, 0o300640000000), (0o3000301, 0o600000000000)]
     s.mode = .exec ∧ s.eaOf i200 = .ok ⟨0o3000100, .glob⟩ ∧ s.memRead ⟨0o3000100, .glob⟩ .cur = .ok 0o135040000300 ∧
       decode (standardWord s.cfg.opcodes 0o135040000300) = .ldb 1 ⟨false, 0, 0o300⟩ ∧
       s.eaCalc (.ifiw ⟨false, 0, 0o300⟩) (secOf 0o3000100) .cur = .ok ⟨0o3000300, .loc⟩ ∧
       s.memRead ⟨0o3000300, .loc⟩ .cur = .ok 0o300640000000 ∧ decodeBP 0o300640000000 (secOf 0o3000300) = .twoGlobal ∧
       s.mayInc ⟨0o3000300, .loc⟩ ∧ s.memRead (inc ⟨0o3000300, .loc⟩) .cur = .ok 0o600000000000 ∧ s.pcs ≠ 0) := by
  refine ⟨wI_meets, ⟨rfl, rfl, rfl⟩, wI_chain, by decide, rfl, ?_, by decide +kernel, by decide +kernel⟩
  refine ⟨rfl, by decide +kernel, by decide +kernel, rfl, ⟨rfl, rfl, rfl⟩, rfl, by decide +kernel, ?_⟩
  exact ⟨0o600000000000, by decide +kernel⟩

/-- The index would be global elsewhere, and the indirect word illegal. -/
theorem witness_SectionZeroAbsorbs : w0.eaCalc (.ifiw ⟨false, 2, 0o100⟩) 0 .cur = .ok ⟨0o400, .loc⟩ ∧
    w0.eaCalc (.ifiw i200) 0 .cur = .ok ⟨0o300, .loc⟩ := by decide +kernel

theorem witness_EaPageFailTaken : w32.cfg.traps.pageFail = some .pageFailSketch ∧
    (w32.put c200 0o200040000300).eaOf i200 = .error (.pageFail ⟨⟨0o40000300, .glob⟩, .cur, .noSection⟩) ∨
    (w2.put c200 0o600000000300).eaOf i200 = .error (.pageFail ⟨r200, .cur, .illegalIndirect⟩) := by decide +kernel

/-- E at 2,,200, which reads and writes, and its successor: what the statements on moves, the data-step classes, jumps and
subroutines assume. -/
theorem witness_DataForms : w2.eaOf e200 = .ok r200 ∧ w2.locate r200 .cur .read = .ok c200 ∧
    w2.locate r200 .cur .write = .ok c200 ∧ w2.locate (inc r200) .cur .read = .ok c201 ∧
    w2.locate (inc r200) .cur .write = .ok c201 ∧ c201 ≠ c200 ∧ w2.mayInc r200 ∧ (ruled w2).mayInc r200 := by decide +kernel

/-- E is 7777,,777777, global, where the spec's refusals are followed. -/
def wTop : State := { ruled w2 with mem := Memory.write w2.mem 0o2000200 0o7777777777 }

/-- There Inc is refused, and every word but the last has one. -/
theorem wTop_refused : wTop.eaOf i200 = .ok ⟨0o7777777777, .glob⟩ ∧ wTop.topRefused ⟨0o7777777777, .glob⟩ ∧
    wTop.at ⟨0o7777777777, .glob⟩ (.cell 0o7777777777) ∧ wTop.memRead ⟨0o7777777777, .glob⟩ .cur = .ok 0 ∧
    wTop.mayInc ⟨0o7777777776, .glob⟩ ∧ w2.mayInc ⟨0o7777777777, .glob⟩ := by decide +kernel

/-- The same at the boundary: E is AC 17, its successor memory. -/
theorem witness_DataForms_boundary : w2.eaOf ⟨false, 0, 0o17⟩ = .ok ⟨0o2000017, .loc⟩ ∧
    w2.locate ⟨0o2000017, .loc⟩ .cur .read = .ok (.ac 0 0o17) ∧
    w2.locate (inc ⟨0o2000017, .loc⟩) .cur .write = .ok (.cell 0o2000020) := by decide +kernel

theorem witness_MoveAndSkipa : w2.eaOf e200 = .ok r200 ∧ w2.locate r200 .cur .read = .ok c200 ∧
    w32.cfg.traps.pageFail = some .pageFailSketch ∧ w32.eaOf i200 = .ok ⟨0o40000300, .glob⟩ ∧
    w32.locate ⟨0o40000300, .glob⟩ .cur .read = .error ⟨⟨0o40000300, .glob⟩, .cur, .noSection⟩ ∧
    (w2.put c200 0o600000000300).eaOf i200 = .error (.pageFail ⟨r200, .cur, .illegalIndirect⟩) := by decide +kernel

/-- E is AC 17 local (converted), 2,,20 local and 2,,17 global (not converted). -/
theorem witness_ImmediateMoves : w2.eaOf ⟨false, 0, 0o17⟩ = .ok ⟨0o2000017, .loc⟩ ∧
    w2.eaOf ⟨false, 0, 0o20⟩ = .ok ⟨0o2000020, .loc⟩ ∧ w2.eaOf ⟨false, 3, 0⟩ = .ok ⟨0o2000017, .glob⟩ := by decide +kernel

theorem witness_StoringMoves : w2.eaOf e200 = .ok r200 ∧ w2.at r200 c200 ∧ c201 ≠ c200 ∧ w2.mayInc r200 ∧
    w2.locate (inc r200) .cur .read = .ok c201 ∧ w2.locate (inc r200) .cur .write = .ok c201 := by decide +kernel

/-- What the forms of the data-step classes assume. -/
theorem witness_forms : w2.eaOf e200 = .ok r200 ∧ w2.at r200 c200 ∧ w2.locate (inc r200) .cur .read = .ok c201 ∧ w2.mayInc r200 ∧
    w2.locate (inc r200) .cur .write = .ok c201 := by decide +kernel

theorem witness_MoveClassForms : w2.eaOf e200 = .ok r200 ∧ w2.at r200 c200 ∧ w2.locate (inc r200) .cur .read = .ok c201 ∧ w2.mayInc r200 ∧
    w2.locate (inc r200) .cur .write = .ok c201 := witness_forms

theorem witness_ArithmeticAndShiftForms : w2.eaOf e200 = .ok r200 ∧ w2.at r200 c200 ∧ w2.locate (inc r200) .cur .read = .ok c201 ∧ w2.mayInc r200 ∧
    w2.locate (inc r200) .cur .write = .ok c201 := witness_forms

theorem witness_FloatingForms : w2.eaOf e200 = .ok r200 ∧ w2.at r200 c200 ∧ w2.locate (inc r200) .cur .read = .ok c201 ∧ w2.mayInc r200 ∧
    w2.locate (inc r200) .cur .write = .ok c201 := witness_forms

theorem witness_BooleanForms : w2.eaOf e200 = .ok r200 ∧ w2.at r200 c200 ∧ w2.locate (inc r200) .cur .read = .ok c201 ∧ w2.mayInc r200 ∧
    w2.locate (inc r200) .cur .write = .ok c201 := witness_forms

theorem witness_HalfwordForms : w2.eaOf e200 = .ok r200 ∧ w2.at r200 c200 ∧ w2.locate (inc r200) .cur .read = .ok c201 ∧ w2.mayInc r200 ∧
    w2.locate (inc r200) .cur .write = .ok c201 := witness_forms

theorem witness_TestForms : w2.eaOf e200 = .ok r200 ∧ w2.at r200 c200 ∧ w2.locate (inc r200) .cur .read = .ok c201 ∧ w2.mayInc r200 ∧
    w2.locate (inc r200) .cur .write = .ok c201 := witness_forms

theorem witness_SkipForms : w2.eaOf e200 = .ok r200 ∧ w2.at r200 c200 ∧ w2.locate (inc r200) .cur .read = .ok c201 ∧ w2.mayInc r200 ∧
    w2.locate (inc r200) .cur .write = .ok c201 := witness_forms

theorem witness_ConditionalJumpForms : w2.eaOf e200 = .ok r200 := by decide +kernel

theorem witness_ByteField : 30 + 6 ≤ 36 := by decide +kernel

/-- A one-word local, a one-word global and a two-word pointer at 2,,300. -/
def wB1 : State := tState 0o2000100 [(0o2000300, 0o360600000200), (0o2000200, 5)] []
/-- The one-word global pointer to 2,,200: code 45, position 36 and size 6. -/
def wBg : State := tState 0o2000100 [(0o2000300, 0o460002000200), (0o2000200, 5)] []
/-- The two-word pointer to 2,,200. -/
def wB2 : State := tState 0o2000100 [(0o2000300, 0o300640000000), (0o2000301, 0o2000200), (0o2000200, 5)] []
/-- E = 300. -/
abbrev e300 : AddrFields := ⟨false, 0, 0o300⟩
/-- 2,,300. -/
abbrev r300 : EA := ⟨0o2000300, .loc⟩

theorem wB1_points : wB1.pointsTo r300 .oneLocal 0o360600000200 0 30 6 r200 := by
  simp only [State.pointsTo]
  decide +kernel

theorem wBg_points : wBg.pointsTo r300 .oneGlobal 0o460002000200 0 30 6 ⟨0o2000200, .glob⟩ := by
  simp only [State.pointsTo]
  decide +kernel

theorem wB2_points : wB2.pointsTo r300 .twoGlobal 0o300640000000 0o2000200 24 6 ⟨0o2000200, .glob⟩ :=
  have h : wB2.memRead r300 .cur = .ok 0o300640000000 ∧ wB2.mayInc r300 ∧ wB2.memRead (inc r300) .cur = .ok 0o2000200 := by decide +kernel
  ⟨h.1, by decide +kernel, h.2.1, h.2.2, by decide +kernel, by decide +kernel, .efiw false 0 0o2000200, by decide +kernel⟩

theorem witness_ByteLoadAndDeposit : wB1.eaOf e300 = .ok r300 ∧ wB1.pointsTo r300 .oneLocal 0o360600000200 0 30 6 r200 ∧
    wB1.at r200 c200 ∧ wBg.eaOf e300 = .ok r300 ∧
    wBg.pointsTo r300 .oneGlobal 0o460002000200 0 30 6 ⟨0o2000200, .glob⟩ ∧ wBg.at ⟨0o2000200, .glob⟩ c200 ∧
    wB2.eaOf e300 = .ok r300 ∧ wB2.pointsTo r300 .twoGlobal 0o300640000000 0o2000200 24 6 ⟨0o2000200, .glob⟩ :=
  have h : wB1.eaOf e300 = .ok r300 ∧ wBg.eaOf e300 = .ok r300 ∧ wB2.eaOf e300 = .ok r300 := by decide +kernel
  ⟨h.1, wB1_points, by decide +kernel, h.2.1, wBg_points, by decide +kernel, h.2.2, wB2_points⟩

/-- A local pointer at the left end of 2,,177: its increment goes to position 30 of 2,,200. -/
def wI0 : State := tState 0o2000100 [(0o2000300, 0o000600000177), (0o2000200, 5)] []

theorem wI0_steps : wI0.stepsPointer (wI0.put (.cell 0o2000300) 0o360600000200) r300 .oneLocal := by
  refine ⟨0o000600000177, 0, 0o360600000200, 0, .cell 0o2000300, by decide +kernel, by decide +kernel, ?_⟩
  exact ⟨rfl, by rfl, by decide +kernel, rfl, by decide +kernel⟩

theorem witness_IncrementedBytes : wI0.eaOf e300 = .ok r300 ∧
    wI0.stepsPointer (wI0.put (.cell 0o2000300) 0o360600000200) r300 .oneLocal ∧
    (wI0.put (.cell 0o2000300) 0o360600000200).pointsTo r300 .oneLocal 0o360600000200 0 30 6 r200 ∧
    (wI0.put (.cell 0o2000300) 0o360600000200).at r200 c200 :=
  ⟨by decide +kernel, wI0_steps, by simp only [State.pointsTo]; decide +kernel, by decide +kernel⟩

/-- A two-word pointer whose increment steps its second word. -/
def wI2 : State := tState 0o2000100 [(0o2000300, 0o000640000000), (0o2000301, 0o2777777), (0o3000000, 5)] []

theorem witness_IncrementedBytes_twoGlobal : wI2.eaOf e300 = .ok r300 ∧ wI2.stepsPointer
    ((wI2.put (.cell 0o2000300) 0o360640000000).put (.cell 0o2000301) 0o3000000) r300 .twoGlobal :=
  ⟨by decide +kernel, 0o000640000000, 0o2777777, 0o360640000000, 0o3000000, .cell 0o2000300, by decide +kernel,
    rfl, ⟨.inl rfl, by decide +kernel⟩, by rfl, by decide +kernel, ⟨.cell 0o2000301, by decide +kernel, rfl⟩, by decide +kernel⟩

/-- P = S (still inside), P < S with S = 36, and the first and last one-word global codes 45 and 76. -/
theorem witness_PointerIncrement : Config.kc10.byteIncrement = .standard ∧ Config.kc10.owgbp = owgbpStandard ∧
    (bpS 0o060600000200).toNat ≤ (bpP 0o060600000200).toNat ∧
    (bpP 0o434400000200).toNat < (bpS 0o434400000200).toNat ∧ (bpS 0o434400000200).toNat ≤ 36 ∧
    37 ≤ (bpP 0o760002000200).toNat ∧ owgbpDecode owgbpStandard (bpP 0o760002000200).toNat = some (0, 18) ∧
    37 ≤ (bpP 0o450002000200).toNat ∧ owgbpDecode owgbpStandard (bpP 0o450002000200).toNat = some (36, 6) := by
  decide +kernel

/-- Each of the three formats, and the reserved code. -/
theorem witness_AdjbpAndMap : (1 : AcNum) ≠ 0 ∧ wB1.eaOf e300 = .ok r300 ∧ wBg.eaOf e300 = .ok r300 ∧ wB2.eaOf e300 = .ok r300 ∧
    wB1.pointsTo r300 .oneLocal 0o360600000200 0 30 6 r200 ∧ wBg.pointsTo r300 .oneGlobal 0o460002000200 0 30 6 ⟨0o2000200, .glob⟩ ∧
    wB2.pointsTo r300 .twoGlobal 0o300640000000 0o2000200 24 6 ⟨0o2000200, .glob⟩ ∧
    (let s := tState 0o2000100 [(0o2000300, 0o770002000200)] []
     s.eaOf e300 = .ok r300 ∧ s.memRead r300 .cur = .ok 0o770002000200 ∧ (bpP 0o770002000200).toNat = 0o77 ∧
       s.cfg.owgbp = owgbpStandard) :=
  have h : (1 : AcNum) ≠ 0 ∧ wB1.eaOf e300 = .ok r300 ∧ wBg.eaOf e300 = .ok r300 ∧ wB2.eaOf e300 = .ok r300 := by decide +kernel
  ⟨h.1, h.2.1, h.2.2.1, h.2.2.2, wB1_points, wBg_points, wB2_points, by decide +kernel⟩

theorem witness_PlainJumps : w2.eaOf e200 = .ok r200 ∧ w2.memRead r200 .cur = .ok 5 ∧ w2.pcSec ≠ 0 ∧ w0.pcSec = 0 ∧
    w0.cfg.flagsLayout = .standard := by decide +kernel

/-- JSA within PC section, at its last word with the local and the global flag, and outside it; JRA through AC 1. -/
theorem witness_SubroutineJumps : w2.eaOf e200 = .ok r200 ∧ secOf r200.addr = w2.pcSec ∧
    w2.locate r200 .cur .write = .ok c200 ∧ w2.eaOf ⟨false, 0, 0o777777⟩ = .ok ⟨0o2777777, .loc⟩ ∧
    (w2.put c200 0o2777777).eaOf i200 = .ok ⟨0o2777777, .glob⟩ ∧ offOf (0o2777777 : Addr) = 0o777777 ∧
    w2.eaOf ⟨false, 2, 0⟩ = .ok ⟨0o3000300, .glob⟩ ∧ secOf (0o3000300 : Addr) ≠ w2.pcSec ∧
    w2.locate ⟨mkAddr w2.pcSec (lh (w2.x 2)), .loc⟩ .cur .read = .ok (.ac 0 3) ∧
    w2.mayInc r200 ∧ wTop.eaOf i200 = .ok ⟨0o7777777777, .glob⟩ ∧ wTop.topRefused ⟨0o7777777777, .glob⟩ ∧
    wTop.locate ⟨0o7777777777, .glob⟩ .cur .write = .ok (.cell 0o7777777777) := by decide +kernel

/-- The same machine with XJRSTF_BLOCK the other way round. -/
def pcFirst (s : State) : State := { s with cfg := { s.cfg with flagsLayout := { s.cfg.flagsLayout with pcFirst := true } } }

/-- A machine that lets XJEN run. -/
def runsXjen (s : State) : State := { s with cfg := { s.cfg with xjen := .run } }

/-- An indirect word that ends its chain. -/
theorem w0_chain : w0.chains .cur 1 (.ifiw i200) 0 0o254120000200 (.ifiw ⟨false, 0, 0o300⟩) 0 0o600000000300 :=
  ⟨0o600000000300, .ifiw ⟨false, 0, 0o300⟩, rfl, by decide +kernel, by decide +kernel, rfl, by decide +kernel, rfl⟩

/-- A machine with an indirect word that calls for another, which is indexed. -/
def wJ : State := tState 0o100 [(0o200, 0o020000300), (0o300, 0o000001000100)] [(1, 0o5000300)]

/-- Both words. -/
theorem wJ_chain : wJ.eaOf i200 = .ok ⟨0o400, .loc⟩ ∧
    wJ.chains .cur 2 (.ifiw i200) 0 0o254120000200 (.ifiw ⟨false, 1, 0o100⟩) 0 0o000001000100 := by
  refine ⟨by decide +kernel, 0o020000300, .ifiw ⟨true, 0, 0o300⟩, rfl, by decide +kernel, by decide +kernel, ?_⟩
  exact ⟨0o000001000100, .ifiw ⟨false, 1, 0o100⟩, rfl, by decide +kernel, by decide +kernel, rfl, by decide +kernel, rfl⟩

/-- Chains of no link (with and without an index), of one, and of two that ends with an index. -/
theorem witness_FlagJumps : w2.eaOf e200 = .ok r200 ∧ w2.pcSec ≠ 0 ∧ w2.cfg.traps.muuo = some .muuoSketch ∧
    w0.pcSec = 0 ∧ w0.eaOf i200 = .ok ⟨0o300, .loc⟩ ∧ w0.memRead ⟨mkAddr 0 0o200, .loc⟩ .cur = .ok 0o600000000300 ∧
    (fieldsOf 0o600000000300).i = false ∧ (fieldsOf 0o600000000300).x = 0 ∧
    w0.eaOf ⟨false, 1, 0o100⟩ = .ok ⟨0o400, .loc⟩ ∧ w0.eaOf e200 = .ok z200 ∧ w0.cfg.opcodes.ops = [] ∧ w0.cfg.opcodes.jrst = [] ∧
    w0.chains .cur 0 (.ifiw e200) 0 0o254100000200 (.ifiw e200) 0 0o254100000200 ∧
    w0.chains .cur 1 (.ifiw i200) 0 0o254120000200 (.ifiw ⟨false, 0, 0o300⟩) 0 0o600000000300 ∧
    wJ.eaOf i200 = .ok ⟨0o400, .loc⟩ ∧
    wJ.chains .cur 2 (.ifiw i200) 0 0o254120000200 (.ifiw ⟨false, 1, 0o100⟩) 0 0o000001000100 ∧ 2 < eaFuel ∧
    w2.memRead r200 .cur = .ok 5 ∧ w2.memRead (inc r200) .cur = .ok 6 ∧ w2.cfg.flagsLayout.pcFirst = false ∧
    (pcFirst w2).cfg.flagsLayout.pcFirst = true ∧ (pcFirst w2).eaOf e200 = .ok r200 ∧ (pcFirst w2).memRead r200 .cur = .ok 5 ∧
    (pcFirst w2).memRead (inc r200) .cur = .ok 6 ∧
    w2.mayInc r200 ∧ (pcFirst w2).mayInc r200 ∧ wTop.topRefused ⟨0o7777777777, .glob⟩ ∧
    (runsXjen w2).mode = .exec ∧ (runsXjen w2).cfg.xjen = .run ∧ (runsXjen (pcFirst w2)).mode = .exec ∧
    (runsXjen (pcFirst w2)).cfg.xjen = .run ∧ w2.mode = .exec ∧ w2.cfg.xjen = .refuse ∧
    wUser.mode = .user ∧ wUser.eaOf e200 = .ok r200 := by
  have hw : w2.eaOf e200 = .ok r200 ∧ w2.pcSec ≠ 0 ∧ w2.cfg.traps.muuo = some .muuoSketch := by decide +kernel
  and_intros <;> first | exact hw.1 | exact w0_chain | exact wJ_chain.1 | exact wJ_chain.2 | decide +kernel

/-- Global, and local for each of the three reasons; the step over section 3 to 4. -/
theorem witness_StackPointers : spGlobal 2 0o3000000 = true ∧ spGlobal 0 0o3000000 = false ∧
    spGlobal 2 0o403000000 = true ∧ spGlobal 2 0o400003000000 = false ∧ spGlobal 2 0o777777 = false := by decide +kernel

/-- The local pointer in AC 4 (2,,500), the global one in AC 5 (3,,500), and the local ones at the end of their counts. -/
def wK : State := tState 0o2000100 [(0o2000200, 5)] [(4, 0o777700000500), (5, 0o3000500), (6, 0o777777000500), (7, 0o000000000500)]

theorem witness_PushPop : wK.eaOf e200 = .ok r200 ∧ wK.cfg.stackOverflow = .continue ∧
    wK.locate r200 .cur .read = .ok c200 ∧ wK.locate r200 .cur .write = .ok c200 ∧
    spGlobal wK.pcSec (wK.x 4) = false ∧ spGlobal wK.pcSec (wK.x 5) = true ∧
    wK.locate (stackAddr wK.pcSec false (spInc false (wK.x 4))) .cur .write = .ok (.cell 0o2000501) ∧
    wK.locate (stackAddr wK.pcSec true (spInc true (wK.x 5))) .cur .write = .ok (.cell 0o3000501) ∧
    wK.locate (stackAddr wK.pcSec false (wK.x 4)) .cur .read = .ok (.cell 0o2000500) ∧
    wK.locate (stackAddr wK.pcSec true (wK.x 5)) .cur .read = .ok (.cell 0o3000500) ∧
    (refusing wK).mayStep 4 ∧ (refusing wK).mayStep 5 ∧ (ruled wK).mayStep 4 ∧ (ruled wK).mayStep 5 ∧
    wK.mayStep 6 ∧ lh (wK.x 4) ≠ 0 := by
  decide +kernel

/-- With it a store that page fails, and the two pointers whose next step is an overflow. -/
theorem witness_PushjPopj : wK.eaOf e200 = .ok r200 ∧ wK.cfg.stackOverflow = .continue ∧
    wK.locate (stackAddr wK.pcSec false (spInc false (wK.x 4))) .cur .write = .ok (.cell 0o2000501) ∧
    wK.locate (stackAddr wK.pcSec false (wK.x 4)) .cur .read = .ok (.cell 0o2000500) ∧
    wK.mayStep 4 ∧
    (let s := { wK.setX 5 0o40000500 with cfg := Config.kl10 }
     s.mayStep 5 ∧ spGlobal s.pcSec (s.x 5) = true ∧ s.cfg.traps.pageFail = some .pageFailSketch ∧ s.eaOf e200 = .ok r200 ∧
       s.locate (stackAddr s.pcSec true (spInc true (s.x 5))) .cur .write = .error ⟨⟨0o40000501, .glob⟩, .cur, .noSection⟩) ∧
    (refusing wK).eaOf e200 = .ok r200 ∧ (refusing wK).cfg.stackOverflow = .refuse ∧
    spGlobal (refusing wK).pcSec ((refusing wK).x 6) = false ∧ lh ((refusing wK).x 6) = 0o777777 ∧
    spGlobal (refusing wK).pcSec ((refusing wK).x 7) = false ∧ lh ((refusing wK).x 7) = 0 ∧
    (refusing wK).locate ⟨mkAddr (refusing wK).pcSec (rh ((refusing wK).x 7)), .loc⟩ .cur .read = .ok (.cell 0o2000500) ∧
    (let s := ruled (wK.setX 5 0o7777777777)
     s.eaOf e200 = .ok r200 ∧ s.cfg.rulings = .refuse ∧ spGlobal s.pcSec (s.x 5) = true ∧ addrOf (s.x 5) = 0o7777777777) := by
  decide +kernel

/-- One word (the destination start is E) and two; a destination start above E, whose single word moves and whose way
round the section goes through; and a word moved to AC 1 itself, under both settings of the parameter. -/
theorem witness_BltResult : w2.eaOf e300 = .ok r300 ∧ rh ((w2.setX 1 0o200000300).x 1) ≤ offOf r300.addr ∧
    offOf r200.addr < rh ((w2.setX 1 0o200000300).x 1) ∧
    (State.copy .cur .cur incLocal 1 ⟨mkAddr 2 0o200, .loc⟩ ⟨mkAddr 2 0o300, .loc⟩
      ((w2.setX 1 0o200000300).draw 1)).isOk = true ∧
    (State.copy .cur .cur incLocal 2 ⟨mkAddr 2 0o200, .loc⟩ ⟨mkAddr 2 0o277, .loc⟩
      ((w2.setX 1 0o200000277).draw 1)).isOk = true ∧
    w2.cfg.rulings = .run ∧ (ruled w2).cfg.rulings = .refuse ∧ (ruled w2).eaOf e300 = .ok r300 ∧
    (ruled w2).locate r300 .cur .write ≠ .ok (.ac w2.cab 1) ∧
    (let s := ruled (w2.setX 1 0o200000001)
     s.eaOf ⟨false, 0, 1⟩ = .ok ⟨0o2000001, .loc⟩ ∧ rh (s.x 1) ≤ offOf 0o2000001 ∧
       s.locate ⟨0o2000001, .loc⟩ .cur .write = .ok (.ac s.cab 1) ∧
       (State.copy .cur .cur incLocal 1 ⟨mkAddr 2 0o200, .loc⟩ ⟨mkAddr 2 1, .loc⟩ (s.draw 1)).isOk = true) := by
  decide +kernel

/-- Count 1, from 2,,200 to 3,,300; a negative count; the streams spare ACs 1 to 3. -/
def wX : State := tState 0o2000100 [(0o2000200, 5)] [(1, 1), (2, 0o2000200), (3, 0o3000300)]

theorem isOk_elim {α β : Type} {x : Except α β} (h : x.isOk = true) : ∃ y, x = .ok y := by
  cases x with
  | ok y => exact ⟨y, rfl⟩
  | error e => cases h

/-- One word from 2,,200 to 3,,300 (in the previous context of `wIP`, the user's), whatever contexts its streams are in. -/
theorem xblts_of {s : State} {cs cd : Ctx} {p q : Nat} (h1 : (s.x 1).toNat = 1) (hb : bitAt (s.x 1) 0 = false)
    (hr : s.locate ⟨addrOf (s.x (1 + 1)), .glob⟩ cs .read = .ok (.cell p))
    (hw : s.locate ⟨addrOf (s.x (1 + 2)), .glob⟩ cd .write = .ok (.cell q))
    (ht : s.cfg.rulings = .run)
    (hc : (s.copy cs cd incGlobal (s.x 1).toNat ⟨addrOf (s.x (1 + 1)), .glob⟩ ⟨addrOf (s.x (1 + 2)), .glob⟩).isOk = true) :
    ∃ t, s.xblts t 1 cs cd := by
  obtain ⟨s0, h0⟩ := isOk_elim hc
  refine ⟨_, hb, .inl ht, fun k hk => ?_, s0, h0, rfl⟩
  obtain rfl : k = 0 := by omega
  exact ⟨fun n h => absurd (hr.symm.trans h) (by simp), fun n h => absurd (hw.symm.trans h) (by simp)⟩

theorem wX_copies : ∃ t, wX.xblts t 1 .cur .cur := by
  refine xblts_of (p := 0o2000200) (q := 0o3000300) rfl rfl ?_ ?_ rfl ?_ <;> decide +kernel

/-- One word; a negative count; one word to AC 2, and two words of which the first is at 7777,,777777. -/
theorem witness_XbltResult : (∃ t, wX.xblts t 1 .cur .cur) ∧ bitAt ((wX.setX 1 0o400000000000).x 1) 0 = true ∧
    (let s := ruled (wX.setX 3 0o1000002)
     s.cfg.rulings = .refuse ∧ bitAt (s.x 1) 0 = false ∧ s.x 1 ≠ 0 ∧
       s.locate ⟨addrOf (s.x (1 + 1)), .glob⟩ .cur .read = .ok (.cell 0o2000200) ∧
       s.locate ⟨addrOf (s.x (1 + 2)), .glob⟩ .cur .write = .ok (.ac s.cab (1 + 1))) ∧
    (let s := ruled ((wX.setX 1 2).setX 2 0o7777777777)
     s.cfg.rulings = .refuse ∧ bitAt (s.x 1) 0 = false ∧ 2 ≤ (s.x 1).toNat ∧ addrOf (s.x (1 + 1)) = 0o7777777777 ∧
       s.locate ⟨addrOf (s.x (1 + 1)), .glob⟩ .cur .read = .ok (.cell 0o7777777777) ∧
       s.locate ⟨addrOf (s.x (1 + 2)), .glob⟩ .cur .write = .ok (.cell 0o3000300)) :=
  ⟨wX_copies, by decide +kernel⟩

theorem witness_ExtendSelects : w2.eaOf e200 = .ok r200 ∧
    (w2.put c200 0o020000000000).memRead r200 .cur = .ok 0o020000000000 ∧ opField (standardExtended w2.cfg.opcodes 0o020000000000) = 0o020 ∧
    w2.x 1 = 0 ∧ opField (standardExtended w2.cfg.opcodes 0o016000000000) = 0o016 ∧
    w2.mayInc r200 ∧ w2.locate (inc r200) .cur .read = .ok c201 ∧ w2.x (1 + 3) = 0 ∧
    0o020 < (opField (standardExtended w2.cfg.opcodes 0o021000000000)).toNat ∧
    opField (standardExtended w2.cfg.opcodes 5) = 0 ∧ w2.cfg.traps.muuo = some .muuoSketch := by decide +kernel

/-- One byte from 2,,400 to 2,,500 and the fill word at 2,,201. -/
def wS : State := tState 0o2000100 [(0o2000201, 0o40), (0o2000400, 0o406050342212)]
  [(1, 1), (2, 0o440700000400), (4, 1), (5, 0o440700000500)]

/-- Its source pointer stepped, and its destination pointer where no source is left and where a byte was taken. -/
theorem wS_source : wS.stepsString (wS.setX 2 0o350700000400) .cur (1 + 1) 29 7 ⟨0o2000400, .loc⟩ :=
  ⟨0o350700000400, 0, by rfl, by decide +kernel, by rfl, rfl, by decide +kernel⟩

theorem wS_fillTarget :
    (wS.setX 1 0).stepsString ((wS.setX 1 0).setX 5 0o350700000500) .cur (1 + 4) 29 7 ⟨0o2000500, .loc⟩ :=
  ⟨0o350700000500, 0, by rfl, by decide +kernel, by rfl, rfl, by decide +kernel⟩

theorem wS_byteTarget : ((wS.setX 2 0o350700000400).setX 1 0).stepsString
    (((wS.setX 2 0o350700000400).setX 1 0).setX 5 0o350700000500) .cur (1 + 4) 29 7 ⟨0o2000500, .loc⟩ :=
  ⟨0o350700000500, 0, by rfl, by decide +kernel, by rfl, rfl, by decide +kernel⟩

/-- A round that moves the byte of position 29 and size 7 at 2,,400 to 2,,500, and one that stores the fill there. -/
theorem wS_rounds : wS.movsljRuns 1 .cur .cur 0o40 1 (((((wS.setX 2 0o350700000400).setX 1 0).setX 5 0o350700000500).put
      (.cell 0o2000500) (depositByte 29 7 0 (byteOf 29 7 0o406050342212))).setX 4 0) ∧
    (wS.setX 1 0).movsljRuns 1 .cur .cur 0o40 1 ((((wS.setX 1 0).setX 5 0o350700000500).put (.cell 0o2000500)
      (depositByte 29 7 0 0o40)).setX 4 0) := by
  have hl : (wS.setX 2 0o350700000400).locate ⟨0o2000400, .loc⟩ .cur .read = .ok (.cell 0o2000400) := by decide +kernel
  refine ⟨⟨by decide +kernel, _, ⟨byteOf 29 7 0o406050342212, (wS.setX 2 0o350700000400).setX 1 0, _, 29, 7,
      ⟨0o2000500, .loc⟩, .cell 0o2000500, ?_, wS_byteTarget, by decide +kernel, rfl⟩, ?_⟩,
    by decide +kernel, _, ⟨0o40, wS.setX 1 0, _, 29, 7, ⟨0o2000500, .loc⟩, .cell 0o2000500, ?_, wS_fillTarget, by decide +kernel,
      rfl⟩, ?_⟩
  · rw [if_neg (by decide +kernel)]
    exact ⟨_, 29, 7, ⟨0o2000400, .loc⟩, .cell 0o2000400, wS_source, hl, by decide +kernel⟩
  · show _ = (_ : State)
    decide +kernel
  · rw [if_pos (by decide +kernel)]
    exact ⟨rfl, rfl⟩
  · show _ = (_ : State)
    decide +kernel

/-- Each of the clauses: no destination left; one byte of fill; one byte moved; rounds. -/
theorem witness_MovsljRounds : wS.mayInc r200 ∧ wS.locate (inc r200) .cur .read = .ok c201 ∧
    wS.get c201 = 0o40 ∧ (wS.setX 4 0).x (1 + 3) = 0 ∧
    wS.x (1 + 3) = 1 ∧ (wS.setX 1 0).x 1 = 0 ∧
    (wS.setX 1 0).stepsString ((wS.setX 1 0).setX 5 0o350700000500) .cur (1 + 4) 29 7 ⟨0o2000500, .loc⟩ ∧
    ((wS.setX 1 0).setX 5 0o350700000500).at ⟨0o2000500, .loc⟩ (.cell 0o2000500) ∧
    wS.x 1 = 1 ∧ wS.stepsString (wS.setX 2 0o350700000400) .cur (1 + 1) 29 7 ⟨0o2000400, .loc⟩ ∧
    (wS.setX 2 0o350700000400).locate ⟨0o2000400, .loc⟩ .cur .read = .ok (.cell 0o2000400) ∧
    ((wS.setX 2 0o350700000400).setX 1 0).stepsString (((wS.setX 2 0o350700000400).setX 1 0).setX 5 0o350700000500) .cur (1 + 4)
      29 7 ⟨0o2000500, .loc⟩ ∧
    (((wS.setX 2 0o350700000400).setX 1 0).setX 5 0o350700000500).at ⟨0o2000500, .loc⟩ (.cell 0o2000500) ∧
    (∃ t, wS.movsljRuns 1 .cur .cur 0o40 1 t ∧ t.x (1 + 3) = 0) ∧ 1 < 2 ^ 64 := by
  and_intros <;> first
    | exact wS_fillTarget | exact wS_source | exact wS_byteTarget | exact ⟨_, wS_rounds.1, by simp⟩ | decide +kernel

/-- Nothing to move; and lengths 7 and 9, the boundary 36 of position and size among the pointers. -/
theorem witness_EmptyStrings : (w2.x 1 = 0 ∧ w2.x (1 + 3) = 0 ∧ w2.mayInc r200 ∧ w2.mayInc (inc r200) ∧ w2.locate (inc r200) .cur .read = .ok c201 ∧
    w2.locate (inc (inc r200)) .cur .read = .ok (.cell 0o2000202) ∧ w2.eaCalc (.ifiw e300) (secOf r200.addr) .cur = .ok r300) ∧
    (let s := tState 0o2000100 [] [(1, 7), (2, 0o440700000400), (4, 9), (5, 0o004400000020)]
     configAdmitsAll s.cfg ∧ s.cfg.byteIncrement = .standard ∧ s.mayInc r200 ∧ s.mayInc (inc r200) ∧
       s.eaCalc (.ifiw e300) (secOf r200.addr) .cur = .ok r300 ∧
       plainPointer (s.x (1 + 1)) ∧ plainPointer (s.x (1 + 4)) ∧ 0o17 < (rh (s.x (1 + 4))).toNat ∧
       (rh (s.x (1 + 4))).toNat + (s.x (1 + 3)).toNat < 2 ^ 18 ∧ s.x (1 + 3) ≠ 0) := by
  decide +kernel

/-- The patterns at 2,,400, the destination at 2,,500, the mark at AC 3. -/
theorem witness_EditCompletes :
    let s := tState 0o2000100 [] [(2, 0o400), (5, 0o500), (4, 0o3000600)]
    Memory.wf s.mem = true ∧ configAdmitsAll s.cfg ∧ s.cfg.byteIncrement = .standard ∧ s.pcSec ≠ 0 ∧
    s.eaCalc (.ifiw e300) (secOf r200.addr) .cur = .ok r300 ∧ 0o17 < (0o400 : Half).toNat ∧
    0o17 < (0o500 : Half).toNat ∧ s.x (1 + 1) = join 0 0o400 ∧ s.x (1 + 4) = join 0 0o500 ∧
    s.locate ⟨addrOf (s.x (1 + 3)), .glob⟩ .cur .write ≠ .ok (.ac s.cab 7) ∧ (7 : AcNum) ∉ [1, 1 + 1, 1 + 2, 1 + 3, 1 + 4, 1 + 5] ∧
    s.cfg.rulings = .run := by
  decide +kernel

theorem exists_next {i : Instr} {s : State}
    (h : ∃ m, bodyOf runWord i s.top (.start s (some (trapWord i))) = .ok m) : ∃ t, exec i s = .next t :=
  h.elim fun m hm => ⟨m.st, exec_next ⟨m, hm, rfl⟩⟩

/-- A CMPSx of two empty strings completes. -/
theorem emptyCompare (rel : Ordering → Bool) (op : Nat) (iw : Option Word) :
    ∃ m, freeCompare op rel 1 r200 w2.top (.start w2 iw) = .ok m := by
  have hi : (Mach.start w2 iw).incRef r200 = .ok (inc r200) := rfl
  have hs : readWords (.start w2 iw) .cur 2 (inc r200) = .ok [6, 0] := rfl
  unfold freeCompare
  rw [show w2.top.guardExt false = .ok () from rfl, Run.ok_bind, hi, Run.ok_bind, hs, Run.ok_bind]
  change ∃ m, (fetchBytes op none (1 + 1) (freeCount _ (w2.x 1)) _ >>= _) = .ok m
  rw [show w2.x 1 = 0 by decide +kernel, freeCount_zero]
  change ∃ m, (fetchBytes op none (1 + 4) (freeCount _ (w2.x (1 + 3))) _ >>= _) = .ok m
  rw [show w2.x (1 + 3) = 0 by decide +kernel, freeCount_zero]
  exact ⟨_, rfl⟩

/-- The instructions complete where strings are empty. -/
theorem witness_ReadingStringsStoreNothing : (∃ t, exec (.cmpsl 1 r200 0 e300) w2 = .next t) ∧
    (∃ t, exec (.cmpsg 1 r200 0 e300) w2 = .next t) ∧ ∃ t, exec (.cvtdbo 1 r200 0 e300) w2 = .next t := by
  refine ⟨exists_next (emptyCompare _ _ _), exists_next (emptyCompare _ _ _), exists_next ?_⟩
  change ∃ m, freeToBinary 0o010 false 1 r200 e300 w2.top _ = .ok m
  have he : ∀ iw, extendedEa r200 e300 (.start w2 iw) = .ok r300 := fun _ => rfl
  unfold freeToBinary
  rw [show w2.top.guardExt false = .ok () from rfl, Run.ok_bind, he, Run.ok_bind,
    show ∀ iw, (Mach.start w2 iw).x 1 = 0 from fun _ => show w2.x 1 = 0 by decide +kernel, freeCount_zero]
  exact ⟨_, rfl⟩

/-- An XCT of a word in section 3, which addresses 3,,200. -/
def wC (w : Word) : State := tState 0o2000100 [(0o2000200, 0o3000100), (0o3000100, w.toNat), (0o3000200, 5)] []

theorem witness_XctRuns : (wC 0).eaOf i200 = .ok ⟨0o3000100, .glob⟩ ∧
    (wC 0o200040000200).memRead ⟨0o3000100, .glob⟩ .cur = .ok 0o200040000200 ∧
    (wC 0).eaCalc (.ifiw e200) (secOf 0o3000100) .cur = .ok ⟨0o3000200, .loc⟩ ∧
    (wC 0).locate ⟨0o3000200, .loc⟩ .cur .read = .ok (.cell 0o3000200) ∧
    decode (standardWord (wC 0).cfg.opcodes 0o200040000200) = .move 1 e200 ∧
    decode (standardWord (wC 0).cfg.opcodes 0o334040000200) = .skipa 1 e200 ∧
    decode (standardWord (wC 0).cfg.opcodes 0o265040000200) = .jsp 1 e200 ∧
    decode (standardWord (wC 0).cfg.opcodes 0o254000000200) = .jrst e200 := by
  decide +kernel

/-- The same with PCS 4 and the user as previous context. -/
def wP (w : Word) : State := { wC w with pcs := 4, pcu := true, pab := 1 }

/-- The executed word at `wP`, its references, and each instruction the clauses name. -/
theorem witness_PxctMoves : (wP 0).mode = .exec ∧ (wP 0).eaOf i200 = .ok ⟨0o3000100, .glob⟩ ∧
    (wP 0o200040000200).memRead ⟨0o3000100, .glob⟩ .cur = .ok 0o200040000200 ∧
    (wP 0).eaCalc (.ifiw e200) (secOf 0o3000100) .cur = .ok ⟨0o3000200, .loc⟩ ∧
    (wP 0).locate ((wP 0).toPrev ⟨0o3000200, .loc⟩) .prev .read = .ok (.cell 0o10004000200) ∧
    (wP 0).locate ((wP 0).toPrev ⟨0o3000200, .loc⟩) .prev .write = .ok (.cell 0o10004000200) ∧
    (wP 0).eaCalc (.ifiw e200) (wP 0).pcs .prev = .ok ⟨0o4000200, .loc⟩ ∧
    decode (standardWord (wP 0).cfg.opcodes 0o200040000200) = .move 1 e200 ∧
    decode (standardWord (wP 0).cfg.opcodes 0o202040000200) = .movem 1 e200 ∧
    decode (standardWord (wP 0).cfg.opcodes 0o261040000200) = .push 1 e200 ∧
    decode (standardWord (wP 0).cfg.opcodes 0o262040000200) = .pop 1 e200 ∧ (wP 0).cfg.stackOverflow = .continue ∧
    (wP 0).mayStep 1 ∧ decode (standardWord (wP 0).cfg.opcodes 0o257040000200) = .map 1 e200 ∧
    (wP 0).locate (stackAddr (wP 0).pcSec (spGlobal (wP 0).pcSec ((wP 0).x 1))
      (spInc (spGlobal (wP 0).pcSec ((wP 0).x 1)) ((wP 0).x 1))) .cur .write = .ok (.ac 0 1) ∧
    (wP 0).locate (stackAddr (wP 0).pcSec (spGlobal (wP 0).pcSec ((wP 0).x 1)) ((wP 0).x 1)) .cur .read = .ok (.ac 0 0) ∧
    decode (standardWord (wP 0).cfg.opcodes 0o415040000200) = .xmovei 1 e200 ∧
    decode (standardWord (wP 0).cfg.opcodes 0o201040000200) = .movei 1 e200 := by
  decide +kernel

theorem witness_PxctRefusals : (wP 0).mode = .exec ∧ (wP 0).eaOf i200 = .ok ⟨0o3000100, .glob⟩ ∧
    (wP 0o200040000200).memRead ⟨0o3000100, .glob⟩ .cur = .ok 0o200040000200 ∧ (0o10 : AcNum) ≠ 4 ∧ (0o10 : AcNum) ≠ 0o14 ∧
    (∀ p ∈ ([(0o200040000200, .move 1 e200), (0o254000000200, .jrst e200), (0o260040000200, .pushj 1 e200),
      (0o242040000200, .lsh 1 e200), (0o256000000200, .xct e200), (0o104040000200, .jsys 1 e200)] : List (Word × Instr)),
      decode (standardWord (wP 0).cfg.opcodes p.1) = p.2) ∧
    (tUser 0o2000100 [(0o10002000200, 0o200040000200)] []).mode = .user ∧
    (tUser 0o2000100 [(0o10002000200, 0o200040000200)] []).memRead r200 .cur = .ok 0o200040000200 ∧
    (tUser 0o2000100 [(0o10002000200, 0o200040000200)] []).eaCalc (.ifiw e200) (secOf r200.addr) .cur = .ok r200 ∧
    (tUser 0o2000100 [] []).locate r200 .cur .read = .ok (.cell 0o10002000200) ∧ (tUser 0o2000100 [] []).cfg.rulings = .run ∧
    (ruled wUser).mode = .user ∧ (ruled wUser).eaOf e200 = .ok r200 ∧ (ruled wUser).cfg.rulings = .refuse := by decide +kernel

/-- LDB and DPB under 1, 3, 7 and 17: the pointer at 3,,300 in current context and at 4,,300 in previous context, the byte at 4,,200 of
the user. -/
theorem witness_PxctBytesAndBlocks_bytes :
    let s := wIP 0o135040000300 [(0o3000300, 0o360600000200), (0o10004000300, 0o360600000200)]
    s.mode = .exec ∧ s.eaOf i200 = .ok ⟨0o3000100, .glob⟩ ∧ s.memRead ⟨0o3000100, .glob⟩ .cur = .ok 0o135040000300 ∧
    s.eaCalc (.ifiw e300) (secOf 0o3000100) .cur = .ok ⟨0o3000300, .loc⟩ ∧ s.toPrev ⟨0o3000300, .loc⟩ = ⟨0o4000300, .loc⟩ ∧
    s.eaCalc (.ifiw e300) s.pcs .prev = .ok ⟨0o4000300, .loc⟩ ∧
    s.memRead ⟨0o3000300, .loc⟩ .cur = .ok 0o360600000200 ∧ s.memRead ⟨0o4000300, .loc⟩ .prev = .ok 0o360600000200 ∧
    decodeBP 0o360600000200 3 = .oneLocal ∧ decodeBP 0o360600000200 4 = .oneLocal ∧
    s.eaCalc (.ifiw (fieldsOf 0o360600000200)) 3 .cur = .ok ⟨0o3000200, .loc⟩ ∧ s.toPrev ⟨0o3000200, .loc⟩ = ⟨0o4000200, .loc⟩ ∧
    s.eaCalc (.ifiw (fieldsOf 0o360600000200)) s.pcs .prev = .ok ⟨0o4000200, .loc⟩ ∧
    decode (standardWord s.cfg.opcodes 0o135040000300) = .ldb 1 e300 ∧
    decode (standardWord s.cfg.opcodes 0o137040000300) = .dpb 1 e300 ∧
    s.atIn .prev ⟨0o4000200, .loc⟩ (.cell 0o10004000200) := by
  decide +kernel

/-- BLT under 5 and 15: one word within the user's section 4. -/
theorem witness_PxctBytesAndBlocks_blt :
    let s := (wIP 0o251040000300 []).setX 1 0o200000300
    s.mode = .exec ∧ s.eaOf i200 = .ok ⟨0o3000100, .glob⟩ ∧ s.memRead ⟨0o3000100, .glob⟩ .cur = .ok 0o251040000300 ∧
    decode (standardWord s.cfg.opcodes 0o251040000300) = .blt 1 e300 ∧
    s.eaCalc (.ifiw e300) (secOf 0o3000100) .cur = .ok ⟨0o3000300, .loc⟩ ∧ s.toPrev ⟨0o3000300, .loc⟩ = ⟨0o4000300, .loc⟩ ∧
    s.eaCalc (.ifiw e300) s.pcs .prev = .ok ⟨0o4000300, .loc⟩ ∧ rh (s.x 1) ≤ offOf 0o4000300 ∧
    s.cfg.rulings = .run ∧ (ruled s).locate ⟨0o4000300, .loc⟩ .prev .write ≠ .ok (.ac s.cab 1) ∧
    ((s.draw 1).copy .prev .prev incLocal ((offOf 0o4000300).toNat - (rh (s.x 1)).toNat + 1)
      ⟨mkAddr 4 (lh (s.x 1)), .loc⟩ ⟨mkAddr 4 (rh (s.x 1)), .loc⟩).isOk = true := by decide +kernel

/-- XBLT under 1, 2 and 3: one word from 2,,200 to 3,,300. -/
theorem witness_PxctBytesAndBlocks_xblt :
    let s := (((wIP 0o123040000300 [(0o3000300, 0o020000000000)]).setX 1 1).setX 2 0o2000200).setX 3 0o3000300
    s.mode = .exec ∧ s.eaOf i200 = .ok ⟨0o3000100, .glob⟩ ∧ s.memRead ⟨0o3000100, .glob⟩ .cur = .ok 0o123040000300 ∧
    decode (standardWord s.cfg.opcodes 0o123040000300) = .extend 1 e300 ∧
    s.eaCalc (.ifiw e300) (secOf 0o3000100) .cur = .ok ⟨0o3000300, .loc⟩ ∧ s.memRead ⟨0o3000300, .loc⟩ .cur = .ok 0o020000000000 ∧
    opField (standardExtended s.cfg.opcodes 0o020000000000) = 0o020 ∧
    (∃ t, s.xblts t 1 .cur .prev) ∧ (∃ t, s.xblts t 1 .prev .cur) ∧ ∃ t, s.xblts t 1 .prev .prev := by
  and_intros <;> first
    | decide +kernel
    | exact xblts_of (p := 0o2000200) (q := 0o10003000300) rfl rfl (by decide +kernel) (by decide +kernel) rfl (by decide +kernel)
    | exact xblts_of (p := 0o10002000200) (q := 0o3000300) rfl rfl (by decide +kernel) (by decide +kernel) rfl (by decide +kernel)
    | exact xblts_of (p := 0o10002000200) (q := 0o10003000300) rfl rfl (by decide +kernel) (by decide +kernel) rfl (by decide +kernel)

/-- An EXTEND at 3,,100 of a MOVSLJ at 3,,300, its destination string at 500 of its section. -/
def wM : State := (wIP 0o123040000300 [(0o3000300, 0o016000000000), (0o3000301, 0o40)]).setX 5 0o440700000500

/-- MOVSLJ under 1, 2 and 3: no destination left, and one fill deposited in the user's section 4. -/
theorem witness_PxctBytesAndBlocks_movslj : wM.memRead ⟨0o3000300, .loc⟩ .cur = .ok 0o016000000000 ∧
    opField (standardExtended wM.cfg.opcodes 0o016000000000) = 0o016 ∧
    wM.mayInc ⟨0o3000300, .loc⟩ ∧ wM.locate (inc ⟨0o3000300, .loc⟩) .cur .read = .ok (.cell 0o3000301) ∧ wM.get (.cell 0o3000301) = 0o40 ∧ wM.x (1 + 3) = 0 ∧
    wM.movsljRuns 1 .prev .cur 0o40 0 wM ∧
    ∀ cs, (wM.setX 4 1).movsljRuns 1 cs .prev 0o40 1 ((((wM.setX 4 1).setX 5 0o350700000500).put (.cell 0o10004000500)
      (depositByte 29 7 0 0o40)).setX 4 0) := by
  have h : wM.memRead ⟨0o3000300, .loc⟩ .cur = .ok 0o016000000000 ∧ wM.mayInc ⟨0o3000300, .loc⟩ ∧
      wM.locate (inc ⟨0o3000300, .loc⟩) .cur .read = .ok (.cell 0o3000301) := by decide +kernel
  refine ⟨h.1, rfl, h.2.1, h.2.2, by decide +kernel, by decide +kernel, rfl, fun cs => ?_⟩
  refine ⟨by decide +kernel, _, ⟨0o40, wM.setX 4 1, (wM.setX 4 1).setX 5 0o350700000500, 29, 7, ⟨0o4000500, .loc⟩,
    .cell 0o10004000500, ?_, ⟨0o350700000500, 0, by rfl, by decide +kernel, by rfl, rfl, by decide +kernel⟩,
    by decide +kernel, rfl⟩, ?_⟩
  · rw [if_pos (by decide +kernel)]
    exact ⟨rfl, rfl⟩
  · show _ = (_ : State)
    decide +kernel

/-- `s` with another LUUO block. -/
def luuoTraps (lb : LuuoLayout) (s : State) : State :=
  { s with cfg := { s.cfg with traps := { s.cfg.traps with luuoBlock := some lb } } }

/-- Another layout: its address word is word 430, PC+1 comes before the flags word, a word between them is not stored. -/
def otherLuuo : LuuoLayout :=
  { pointer := 0o430, addressing := .placed none, words := [⟨0, [⟨.pcNext, 35⟩]⟩, ⟨2, [⟨.acField, 12⟩, ⟨.flags, 35⟩]⟩], newPc := 5 }

/-- The block at 5,,600, virtual, and at physical word 5000600; and another layout. -/
theorem witness_LuuoBlock :
    let s := tState 0o3000100 [(0o420, 0o5000600), (0o5000603, 0o6000700)] []
    s.eaOf e200 = .ok ⟨0o3000200, .loc⟩ ∧ s.pcSec ≠ 0 ∧ s.cfg.traps.luuoBlock = some (.sketch .current) ∧ s.cfg.rulings = .run ∧
    addrOf (Memory.read s.mem (s.ept.toNat + 0o420)) = 0o5000600 ∧ (0o5000600 : Addr).toNat + 3 < 2 ^ 30 ∧
    s.locate ⟨0o5000600, .glob⟩ .cur .write = .ok (.cell 0o5000600) ∧
    s.locate (inc ⟨0o5000600, .glob⟩) .cur .write = .ok (.cell 0o5000601) ∧
    s.locate (inc (inc ⟨0o5000600, .glob⟩)) .cur .write = .ok (.cell 0o5000602) ∧
    s.locate (inc (inc (inc ⟨0o5000600, .glob⟩))) .cur .read = .ok (.cell 0o5000603) ∧
    (luuoTraps (.sketch (.placed none)) s).cfg.traps.luuoBlock = some (.sketch (.placed none)) ∧
    (luuoTraps otherLuuo s).cfg.traps.luuoBlock = some otherLuuo ∧ otherLuuo.addressing = .placed none ∧ apart otherLuuo.words ∧
    Memory.wf (luuoTraps otherLuuo s).mem = true := by decide +kernel

/-- DMOVE 1,@200 through 7777,,777777 GLOBAL is refused where the spec's refusals are followed (vector M13). -/
theorem test_M13_incPastTop :
    refusalOf (ruled (tState 0o2000100 [(0o2000100, 0o120060000200), (0o2000200, 0o7777777777)] [])) = some .addressTop := by
  decide +kernel

/-- XJEN in exec mode is refused in the machine right after reset (43_jumps.md R286). -/
theorem test_xjenRefused :
    refusalOf (tState 0o2000100 [(0o2000100, 0o254300000200)] []) = some .jrstFunctionNotDescribed := by decide +kernel

/-- That other layout in use: PC+1 in the word that 430 addresses, AC field and flags in its word 2, control to the address in its word
5. -/
theorem test_luuoOtherLayout :
    gives (luuoTraps otherLuuo (tState 0o3000100 [(0o430, 0o5000600), (0o5000605, 0o6000700), (0o3000100, 0o001240000200)] []))
      (fun t => t.pc == 0o6000700 && Memory.read t.mem 0o5000600 == 0o3000101 &&
        Memory.read t.mem 0o5000602 == 0o000240000000 && Memory.read t.mem 0o5000601 == 0) = true := by decide +kernel

theorem witness_LuuoSectionZero : w0.eaOf e200 = .ok z200 ∧ w0.pcSec = 0 ∧ w0.cfg.traps.luuo40 = some luuo40Sketch ∧
    w0.locate ⟨0o40, .loc⟩ .cur .write = .ok (.cell 0o40) ∧ w0.locate ⟨0o41, .loc⟩ .cur .read = .ok (.cell 0o41) ∧
    decode (standardWord w0.cfg.opcodes 0o254000000200) = .jrst ⟨false, 0, 0o200⟩ ∧
    decode (standardWord w0.cfg.opcodes 0o264000000200) = .jsr 0 ⟨false, 0, 0o200⟩ ∧
    w0.locate ⟨mkAddr 0 0o200, .loc⟩ .cur .write = .ok (.cell 0o200) := by decide +kernel

theorem witness_MuuosEnterTheMonitor : w2.eaOf e200 = .ok r200 ∧ w2.cfg.traps.muuo = some .muuoSketch ∧ wUser.mode = .user ∧
    wUser.eaOf e200 = .ok r200 ∧ wUser.eaOf (fieldsOf ((7 : BitVec 3) ++ (0o200 : BitVec 33))) = .ok r200 := by decide +kernel

/-- `s` with the entries of an MUUO and a page fail in the block that word 440 of a process table addresses physically. -/
def blockTraps (t : Option Table) (s : State) : State :=
  let p := some (blockEntry ⟨t, 0o440, none⟩)
  { s with cfg := { s.cfg with traps := { s.cfg.traps with muuo := p, pageFail := p } } }

/-- Entries at fixed places are entered physically too: the sketch is one. -/
theorem witness_MuuoEntry : Memory.wf wUser.mem = true ∧ wUser.cfg.opcodes.ops = [] ∧ wUser.cfg.opcodes.jrst = [] ∧
    wUser.cfg.flagsLayout = .standard ∧ (blockTraps (some .ept) w2).eaOf e200 = .ok r200 ∧
    (blockTraps (some .ept) w2).cfg.traps.muuo = some (blockEntry ⟨some .ept, 0o440, none⟩) ∧
    (blockTraps (some .ept) w2).entersPhysically (blockEntry ⟨some .ept, 0o440, none⟩) .upt ∧
    (blockTraps none w2).entersPhysically (blockEntry ⟨none, 0o440, none⟩) .upt ∧
    w2.entersPhysically .muuoSketch .upt ∧ Memory.wf (blockTraps none w2).mem = true := by
  decide +kernel

theorem witness_PageFailEntry : Memory.wf w32.mem = true ∧
    (let s := blockTraps none (w2.put c200 0o600000000300)
     Memory.wf s.mem = true ∧ s.eaOf i200 = .error (.pageFail ⟨r200, .cur, .illegalIndirect⟩) ∧
       s.cfg.traps.pageFail = some (blockEntry ⟨none, 0o440, none⟩) ∧
       s.entersPhysically (blockEntry ⟨none, 0o440, none⟩) (s.pageFailTable ⟨r200, .cur, .illegalIndirect⟩)) := by decide +kernel

/-- A JSYS of exec mode through such a block: the address and PC+1 in its words 0 and 5, the new PC in word 7. -/
theorem test_muuoOtherLayout :
    gives (blockTraps none (tState 0o2000100 [(0o2000100, 0o104000000200), (0o440, 0o5000), (0o5007, 0o6000700)] []))
      (fun t => t.pc == 0o6000700 && Memory.read t.mem 0o5000 == 0o2000200 && Memory.read t.mem 0o5005 == 0o2000101 &&
        Memory.read t.mem 0o5002 == 0o104000) = true := by decide +kernel

theorem witness_TerminalTraps : (noTraps w2).eaOf e200 = .ok r200 ∧ (noTraps w2).cfg.traps.muuo = none ∧
    (noTraps w2).pcSec ≠ 0 ∧ (noTraps w2).cfg.traps.luuoBlock = none ∧ (noTraps w0).eaOf e200 = .ok z200 ∧
    (noTraps w0).pcSec = 0 ∧ (noTraps w0).cfg.traps.luuo40 = none ∧
    (noTraps (w2.put c200 0o600000000300)).eaOf i200 = .error (.pageFail ⟨r200, .cur, .illegalIndirect⟩) ∧
    (noTraps (w2.put c200 0o600000000300)).cfg.traps.pageFail = none := by decide +kernel

theorem witness_UndescribedInstructionsStop : w2.eaOf e200 = .ok r200 ∧ w2.mode = .exec ∧
    w2.eaOf (fieldsOf ((7 : BitVec 3) ++ (0o200 : BitVec 33))) = .ok r200 := by decide +kernel

end Sys2Proof.Machine
end

section
/-! PROOFS. The memory family (spec/20_memory.md): a reference that is not admitted. -/

namespace Sys2Proof.Machine

/-- A reference to a section that is not implemented denotes no place, whatever the access (R74). -/
theorem State.locate_noSection {s : State} {e : EA} (hac : isAcRef e = false) (hsec : s.cfg.nsect ≤ (secOf e.addr).toNat)
    (c : Ctx) (acc : Access) : s.locate e c acc = .error ⟨e, c, .noSection⟩ := by
  simp [State.locate, hac, hsec]

/-- A read through a reference that is not admitted is its page fail (R76). -/
theorem State.memRead_error {s : State} {e : EA} {c : Ctx} {pf : PageFail} (h : s.locate e c .read = .error pf) :
    s.memRead e c = .error pf := by
  rw [State.memRead, h]

/-- A write through a reference that is not admitted is its page fail (R77). -/
theorem State.memWrite_error {s : State} {e : EA} {c : Ctx} {pf : PageFail} (h : s.locate e c .write = .error pf) (v : Word) :
    s.memWrite e c v = .error pf := by
  rw [State.memWrite, h]

/-- A MOVE whose read of E is not admitted takes that page fail from the state as it was: the read comes before the AC is
written (R395, R492). -/
theorem exec_move_pageFail {a : AcNum} {e : AddrFields} {s : State} {ea : EA} {pf : PageFail} (hea : s.eaOf e = .ok ea)
    (hread : s.locate ea .cur .read = .error pf) (ht : s.cfg.traps.pageFail = some .pageFailSketch) :
    exec (.move a e) s = .next (s.enterPageFail pf) := by
  refine exec_pageFail ht ?_
  have hr : (Mach.start s (some (trapWord (.move a e)))).read ea .cur =
      .error (.trap (.pageFail pf) (.start s (some (trapWord (.move a e))))) := Mach.read_error hread
  simp only [bodyOf, bodyMove, instrEa_ok hea, Run.ok_bind, State.top_dataCtx, hr, Run.error_bind]

/-- Settles O13: the place of the reference is looked up first, and the section is refused there. -/
theorem unimplementedSectionPageFails : Obligations.UnimplementedSectionPageFails := by
  refine ⟨fun s e c v hac hsec => ⟨?_, ?_⟩, fun a e s ea hea hac hsec ht => ?_⟩
  · exact State.memRead_error (State.locate_noSection hac hsec c .read)
  · exact State.memWrite_error (State.locate_noSection hac hsec c .write) v
  · exact exec_move_pageFail hea (State.locate_noSection hac hsec .cur .read) ht

end Sys2Proof.Machine
end

section
/-! PROOFS. The unimplemented operations (spec/45_uuo.md): MUUOs, the two LUUO mechanisms, and EXTEND, whose unassigned opcode words are
MUUOs too. -/

namespace Sys2Proof.Machine

/-! ## Shared facts -/

/-- A step depends on what its body does at PC only. -/
theorem runTop_congr {iw : Word} {b b' : Body} {s : State}
    (h : b s.top (.start s (some iw)) = b' s.top (.start s (some iw))) : runTop iw b s = runTop iw b' s := by
  rw [runTop, runTop, h]

/-- An address word that is not indirect ends the EA-calc (40_ea_calc.md R163). -/
theorem State.eaCalc_direct (s : State) {aw : AddrWord} (h : aw.ind = false) (sec : Sec) (c : Ctx) :
    s.eaCalc aw sec c = .ok (eaIter aw sec (s.xr aw.idx c)) := by
  have hl : eaLoop s c (2 ^ 32 - 1 + 1) aw sec 0 =
      .ok (eaIter aw sec (s.xr aw.idx c), if aw.idx = 0 then 0 else s.xr aw.idx c) := by
    simp [eaLoop, h]
  have hf : eaFuel = 2 ^ 32 - 1 + 1 := rfl
  rw [State.eaCalc, hf, hl]

/-- E of an instruction with neither index nor indirection that is executed from section `sec`, not by a PXCT (40_ea_calc.md R154). -/
theorem instrEa_plain (k : PxClass) (sec : Sec) (y : Half) (m : Mach) :
    instrEa k ⟨false, 0, y⟩ ⟨sec, none⟩ m = .ok ⟨mkAddr sec y, .loc⟩ := by
  have hea : m.st.eaCalc (.ifiw ⟨false, 0, y⟩) sec .cur = .ok ⟨mkAddr sec y, .loc⟩ := State.eaCalc_direct _ rfl sec .cur
  have hb : Frame.bits ⟨sec, none⟩ = ⟨false, false, false, false⟩ := rfl
  rw [instrEa, Frame.guard_none _ k rfl, Run.ok_bind, hb, PxClass.bits_clear, State.pxEaCalc_clear, hea]
  rfl

/-- A fetched word is executed as the instruction it decodes to (48_xct_pxct.md R430). -/
theorem Mach.execute_decoded {m : Mach} {w : Word} {i : Instr} (h : decode (standardWord m.st.cfg.opcodes w) = i) (f : Frame) :
    m.execute runWord w f =
      bodyOf (Machine.execute (chainFuel - 1)) i f { m with iw := some (standardWord m.st.cfg.opcodes w) } := by
  rw [Mach.execute, runWord_eq, h]

/-! ## MUUOs (R346) -/

/-- An MUUO leaves its instruction after the EA-calc, nothing written. -/
theorem muuoOp_top {s : State} {e : AddrFields} {ea : EA} (h : s.eaOf e = .ok ea) (op : BitVec 9) (a : AcNum) (iw : Word) :
    muuoOp op a e s.top (.start s (some iw)) = .error (.trap (.muuo op a ea) (.start s (some iw))) := by
  simp only [muuoOp, instrEa_ok h, Run.ok_bind]

/-- A privileged JRST function does so in user mode (60_exceptions.md R496). -/
theorem jrstPrivileged_user {s : State} {e : AddrFields} {ea : EA} (h : s.eaOf e = .ok ea) (hu : s.mode = .user) (fn : AcNum)
    (iw : Word) :
    jrstPrivileged fn e s.top (.start s (some iw)) = .error (.trap (.muuo 0o254 fn ea) (.start s (some iw))) := by
  simp only [jrstPrivileged, instrEa_ok h, Run.ok_bind, Mach.start_st, hu, if_true]

/-- So does XJEN, whatever the parameter `xjen` says of exec mode. -/
theorem bodyXjen_user {s : State} {e : AddrFields} {ea : EA} (h : s.eaOf e = .ok ea) (hu : s.mode = .user) (iw : Word) :
    bodyXjen e s.top (.start s (some iw)) = .error (.trap (.muuo 0o254 0o06 ea) (.start s (some iw))) := by
  simp only [bodyXjen, instrEa_ok h, Run.ok_bind, Mach.start_st, hu, if_true]

/-- And so do the input-output instructions. -/
theorem bodyIo_user {s : State} {r : BitVec 33} {ea : EA} (h : s.eaOf (fieldsOf ((7 : BitVec 3) ++ r)) = .ok ea)
    (hu : s.mode = .user) (iw : Word) :
    bodyIo r s.top (.start s (some iw)) =
      .error (.trap (.muuo (opField ((7 : BitVec 3) ++ r)) (acField ((7 : BitVec 3) ++ r)) ea) (.start s (some iw))) := by
  simp only [bodyIo, instrEa_ok h, Run.ok_bind, Mach.start_st, hu, if_true]

/-- An opcode whose meaning is `muuoOp` is an MUUO. -/
theorem MuuoForm.of_body {op : BitVec 9} {i : AcNum → AddrFields → Instr}
    (h : ∀ a e, bodyOf runWord (i a e) = muuoOp op a e) : MuuoForm (op, i) := fun a e s ea hea ht => by
  refine exec_muuo ht ?_
  rw [h]
  exact muuoOp_top hea op a _

/-- A JRST function whose meaning is `muuoOp` is one in every state. -/
theorem MuuoFnForm.of_body {fn : AcNum} {i : AddrFields → Instr} (h : ∀ e, bodyOf runWord (i e) = muuoOp 0o254 fn e) :
    MuuoFnForm (fun _ => True) (fn, i) := fun e s ea hea _ ht => by
  refine exec_muuo ht ?_
  rw [h]
  exact muuoOp_top hea 0o254 fn _

/-- A JRST function whose meaning is `jrstPrivileged` is one in user mode. -/
theorem MuuoFnForm.of_privileged {fn : AcNum} {i : AddrFields → Instr} (h : ∀ e, bodyOf runWord (i e) = jrstPrivileged fn e) :
    MuuoFnForm (fun s => s.mode = .user) (fn, i) := fun e s ea hea hu ht => by
  refine exec_muuo ht ?_
  rw [h]
  exact jrstPrivileged_user hea hu fn _

/-- XJEN is an MUUO in user mode. -/
theorem muuoFnForm_xjen : MuuoFnForm (fun s => s.mode = .user) (0o06, .xjen) :=
  fun _ _ _ hea hu ht => exec_muuo ht (bodyXjen_user hea hu _)

/-- Settles O55: each of these meanings is `muuoOp`, or in user mode leaves the instruction just as `muuoOp` does. -/
theorem muuosEnterTheMonitor : Obligations.MuuosEnterTheMonitor := by
  refine ⟨?opcodes, fun lo => .of_body fun _ _ => rfl, ?unassigned, ?privileged, fun r s ea hea hu ht => ?io⟩
  case opcodes =>
    simp only [List.forall_mem_cons]
    and_intros
    any_goals exact MuuoForm.of_body fun _ _ => rfl
    exact List.forall_mem_nil _
  case unassigned =>
    simp only [List.forall_mem_cons]
    and_intros
    any_goals exact MuuoFnForm.of_body fun _ => rfl
    exact List.forall_mem_nil _
  case privileged =>
    simp only [List.forall_mem_cons]
    refine ⟨.of_privileged fun _ => rfl, muuoFnForm_xjen, .of_privileged fun _ => rfl, .of_privileged fun _ => rfl,
      .of_privileged fun _ => rfl, List.forall_mem_nil _⟩
  case io => exact exec_muuo ht (bodyIo_user hea hu _)

/-! ## EXTEND (42_extend.md R230) -/

/-- E0 and the extended opcode word, then the instruction it selects. -/
theorem bodyExtend_top {s : State} {e : AddrFields} {e0 : EA} {xw : Word} (h : s.eaOf e = .ok e0)
    (hx : s.memRead e0 .cur = .ok xw) (a : AcNum) (iw : Word) :
    bodyExtend a e s.top (.start s (some iw)) =
      extendedBody a e0 (standardExtended s.cfg.opcodes xw) s.top (.start s (some iw)) := by
  have hea : s.eaCalc (.ifiw e) s.pcSec .cur = .ok e0 := h
  have hr : (Mach.start s (some iw)).read e0 .cur = .ok xw := Mach.read_memRead hx
  have hg : s.top.guardExtend = .ok () := rfl
  simp only [bodyExtend, hg, Run.ok_bind, Mach.start_st, State.top_sec, hea, Mach.ea, hr]

/-- Opcode word 020 is XBLT. -/
theorem extendedBody_xblt {a : AcNum} {e0 : EA} {xw : Word} (h : opField xw = 0o020) :
    extendedBody a e0 xw = bodyXblt a e0 (acField xw) (fieldsOf xw) := by
  rw [extendedBody, h]
  rfl

/-- Opcode word 016 is MOVSLJ. -/
theorem extendedBody_movslj {a : AcNum} {e0 : EA} {xw : Word} (h : opField xw = 0o016) :
    extendedBody a e0 xw = bodyMovslj a e0 (acField xw) (fieldsOf xw) := by
  rw [extendedBody, h]
  rfl

/-- Opcode words 000 and 021 to 777 select no instruction (R346; log 38). -/
theorem extendedBody_unassigned {a : AcNum} {e0 : EA} {xw : Word} (h : 0o020 < (opField xw).toNat ∨ opField xw = 0) {s : State}
    {m : Mach} : extendedBody a e0 xw s.top m = .error (.trap (.muuo 0o123 a e0) m) := by
  unfold extendedBody
  rcases h with h | h
  · generalize (opField xw).toNat = k at h
    obtain ⟨j, rfl⟩ := Nat.exists_eq_add_of_lt h
    rw [show 0o020 + j + 1 = j + 17 by omega]
    rfl
  · rw [h]
    rfl

/-- XBLT with count 0 moves nothing and rewrites its three ACs (46_blt_xblt.md R370). -/
theorem bodyXblt_zero {s : State} {a : AcNum} (h : s.x a = 0) (e0 : EA) (z : BitVec 4) (e : AddrFields) (iw : Word) :
    ∃ m, bodyXblt a e0 z e s.top (.start s (some iw)) = .ok m ∧ m.st =
      (((s.setX (a + 1) (wordOfAddr (addrOf (s.x (a + 1))))).setX (a + 2) (wordOfAddr (addrOf (s.x (a + 2))))).setX a 0).nextPc := by
  have hg : s.top.guardExt true = .ok () := rfl
  have hb : bitAt 0 0 = false := by decide
  have ha : ∀ x : Addr, x + addrOf 0 = x := fun x => by rw [show addrOf 0 = 0#30 by decide, BitVec.add_zero]
  have h0 : (0 : Word).toNat = 0 := rfl
  simp only [bodyXblt, hg, Run.ok_bind, Mach.x_st, Mach.start_st, h, hb, ha, h0, xbltLoop, Bool.false_eq_true, if_false, Run.pure_eq]
  exact ⟨_, rfl, rfl⟩

/-- MOVSLJ with destination length 0 reads its fill word and skips where no source is left (42_extend.md R239). -/
theorem bodyMovslj_zero {s : State} {a : AcNum} {e0 : EA} {l : Loc} (hm : s.mayInc e0) (hl : s.locate (inc e0) .cur .read = .ok l)
    (h : s.x (a + 3) = 0) (z : BitVec 4) (e : AddrFields) (iw : Word) :
    bodyMovslj a e0 z e s.top (.start s (some iw)) = .ok ((Mach.start s (some iw)).skipIf (s.x a == 0)) := by
  have hg : s.top.guardExt true = .ok () := rfl
  have hi : (Mach.start s (some iw)).incRef e0 = .ok (inc e0) := Mach.incRef_ok hm
  have hr : (Mach.start s (some iw)).read (inc e0) .cur = .ok (s.get l) := Mach.read_ok hl
  have hf : movsljFuel = 2 ^ 64 - 1 + 1 := rfl
  have hn : ∀ src dst fill n, movsljLoop a src dst fill (n + 1) (.start s (some iw)) = .ok (.start s (some iw)) := by
    intro src dst fill n
    simp only [movsljLoop, Mach.x_st, Mach.start_st, h, if_true]
  simp only [bodyMovslj, hg, Run.ok_bind, hi, hr, hf, hn, Mach.x_st, Mach.start_st, Run.pure_eq]

/-- Settles O44: the step is that of the selected instruction, whose own meaning gives each result. -/
theorem extendSelects : Obligations.ExtendSelects := by
  intro a e s e0 xw hea hxw
  have hsel : exec (.extend a e) s =
      runTop (instrWord 0o123 a e) (extendedBody a e0 (standardExtended s.cfg.opcodes xw)) s :=
    runTop_congr (bodyExtend_top hea hxw a _)
  refine ⟨hsel, fun hop hx => ?xblt, fun l hop hm hl hx => ?movslj, fun hop ht => ?unassigned⟩
  case xblt =>
    obtain ⟨m, hm, hst⟩ := bodyXblt_zero hx e0 (acField (standardExtended s.cfg.opcodes xw))
      (fieldsOf (standardExtended s.cfg.opcodes xw)) (instrWord 0o123 a e)
    rw [hsel, extendedBody_xblt hop, runTop_ok hm, hst]
  case movslj =>
    rw [hsel, extendedBody_movslj hop, runTop_ok (bodyMovslj_zero hm hl hx ..)]
    simp [Mach.skipIf]
  case unassigned =>
    rw [hsel, runTop_trap (extendedBody_unassigned hop), takeTrap_muuo ht]

/-! ## LUUOs (R340, R341) -/

/-- The LUUO opcodes and their instructions. -/
def luuoInstrs : List (BitVec 9 × (AcNum → AddrFields → Instr)) :=
  [(0o01, .luuo01), (0o02, .luuo02), (0o03, .luuo03), (0o04, .luuo04), (0o05, .luuo05), (0o06, .luuo06),
    (0o07, .luuo07), (0o10, .luuo10), (0o11, .luuo11), (0o12, .luuo12), (0o13, .luuo13), (0o14, .luuo14),
    (0o15, .luuo15), (0o16, .luuo16), (0o17, .luuo17), (0o20, .luuo20), (0o21, .luuo21), (0o22, .luuo22),
    (0o23, .luuo23), (0o24, .luuo24), (0o25, .luuo25), (0o26, .luuo26), (0o27, .luuo27), (0o30, .luuo30),
    (0o31, .luuo31), (0o32, .luuo32), (0o33, .luuo33), (0o34, .luuo34), (0o35, .luuo35), (0o36, .luuo36),
    (0o37, .luuo37)]

/-- Every LUUO has the one meaning `luuoOp`, under its own opcode. -/
theorem bodyOf_luuo (run : RunWord) : ∀ p ∈ luuoInstrs, ∀ a e, bodyOf run (p.2 a e) = luuoOp run p.1 a e := by
  simp only [luuoInstrs, List.forall_mem_cons]
  and_intros
  any_goals (intros; rfl)
  exact List.forall_mem_nil _

/-- What an LUUO leaves, from the machine its meaning gives. -/
theorem exec_luuo {p : BitVec 9 × (AcNum → AddrFields → Instr)} (hp : p ∈ luuoInstrs) {a : AcNum} {e : AddrFields} {s t : State}
    (h : ∀ iw, ∃ m, luuoOp runWord p.1 a e s.top (.start s (some iw)) = .ok m ∧ m.st = t) : exec (p.2 a e) s = .next t := by
  refine exec_next ?_
  rw [bodyOf_luuo runWord p hp]
  exact h _

/-! ### PC section zero (R342) -/

/-- With PC section zero an LUUO goes through 40 and 41. -/
theorem luuoOp_sectionZero {s : State} {e : AddrFields} {ea : EA} (h : s.eaOf e = .ok ea) (hz : s.pcSec = 0) (run : RunWord)
    (op : BitVec 9) (a : AcNum) (iw : Word) :
    luuoOp run op a e s.top (.start s (some iw)) = luuo40 run op a ea (.start s (some iw)) := by
  simp only [luuoOp, instrEa_ok h, Run.ok_bind, Mach.start_st, hz, if_true]

/-- The word stored in 40, and the word then found in 41 executed from section zero. -/
theorem luuo40_executes {m : Mach} {fs : List TrapField} {l0 l1 : Loc} (hfs : m.st.cfg.traps.luuo40 = some fs)
    (h0 : m.st.locate ⟨0o40, .loc⟩ .cur .write = .ok l0) (h1 : m.st.locate ⟨0o41, .loc⟩ .cur .read = .ok l1) (run : RunWord)
    (op : BitVec 9) (a : AcNum) (ea : EA) :
    luuo40 run op a ea m =
      (m.put l0 (m.st.assemble (luuoData m.st op a ea) fs)).execute run
        ((m.st.put l0 (m.st.assemble (luuoData m.st op a ea) fs)).get l1) ⟨0, none⟩ := by
  have hr : (m.put l0 (m.st.assemble (luuoData m.st op a ea) fs)).read ⟨0o41, .loc⟩ .cur =
      .ok ((m.st.put l0 (m.st.assemble (luuoData m.st op a ea) fs)).get l1) := Mach.read_ok (by simpa using h1)
  simp only [luuo40, hfs, Mach.write_ok h0, Run.ok_bind, hr]

/-- A JRST with neither index nor indirection, executed from section zero, jumps to its address there (43_jumps.md R271). -/
theorem bodyJrst_plain (y : Half) (m : Mach) : bodyJrst ⟨false, 0, y⟩ ⟨0, none⟩ m = .ok (m.setPc (mkAddr 0 y)) := by
  simp only [bodyJrst, instrEa_plain, Run.ok_bind, Run.pure_eq]

/-- Such a JSR stores the PC word at its address and jumps to the word after it (43_jumps.md R277). -/
theorem bodyJsr_plain {y : Half} {m : Mach} {l : Loc} (hl : m.st.locate ⟨mkAddr 0 y, .loc⟩ .cur .write = .ok l) (b : AcNum) :
    bodyJsr b ⟨false, 0, y⟩ ⟨0, none⟩ m = .ok ((m.put l m.st.pcWord).setPc (mkAddr 0 (y + 1))) := by
  have hi : (m.put l m.st.pcWord).incRef ⟨mkAddr 0 y, .loc⟩ = .ok ⟨mkAddr 0 (y + 1), .loc⟩ := by
    rw [Mach.incRef_ok (.inr rfl), inc, secOf_mkAddr, offOf_mkAddr]
  simp only [bodyJsr, instrEa_plain, Run.ok_bind, Mach.write_ok hl, hi, Run.pure_eq]

/-- Storing a word leaves the stored PC as it was. -/
@[simp] theorem State.pcWord_put (s : State) (l : Loc) (v : Word) : (s.put l v).pcWord = s.pcWord := by
  simp [State.pcWord]

/-- Settles O54: the LUUO stores its word and runs the body of the instruction found at 41. -/
theorem luuoSectionZero : Obligations.LuuoSectionZero := by
  intro p hp a e s ea l0 l1 fs hea hz hfs h0 h1 s1
  have hrun : ∀ iw i, decode (standardWord s.cfg.opcodes (s1.get l1)) = i →
      ∃ m, m.st = s1 ∧ luuoOp runWord p.1 a e s.top (.start s (some iw)) =
        bodyOf (execute (chainFuel - 1)) i ⟨0, none⟩ m := by
    intro iw i hi
    have hdec : decode (standardWord s1.cfg.opcodes (s1.get l1)) = i := by rwa [State.put_cfg]
    rw [luuoOp_sectionZero hea hz, luuo40_executes (m := .start s (some iw)) hfs h0 h1]
    exact ⟨_, rfl, Mach.execute_decoded (m := Mach.put (.start s (some iw)) l0 _) hdec _⟩
  refine ⟨?stored, fun y hy => ?jrst, fun b y l hy hl => ?jsr⟩
  case stored =>
    rintro rfl
    exact congrArg (s.put l0) (s.assemble_luuo40 p.1 a (luuoData s p.1 a ea) rfl)
  case jrst =>
    refine exec_luuo hp fun iw => ?_
    obtain ⟨m, hst, hm⟩ := hrun iw _ hy
    exact ⟨_, hm.trans (bodyJrst_plain y m), by rw [Mach.setPc_st, hst]⟩
  case jsr =>
    refine exec_luuo hp fun iw => ?_
    obtain ⟨m, hst, hm⟩ := hrun iw _ hy
    refine ⟨_, hm.trans (bodyJsr_plain (l := l) (by rwa [hst]) b), ?_⟩
    rw [Mach.setPc_st, Mach.put_st, hst, State.pcWord_put]

/-! ### PC section non-zero (R343) -/

/-- With PC section non-zero an LUUO goes through the block. -/
theorem luuoOp_sectionNonzero {s : State} {e : AddrFields} {ea : EA} (h : s.eaOf e = .ok ea) (hz : s.pcSec ≠ 0) (run : RunWord)
    (op : BitVec 9) (a : AcNum) (iw : Word) :
    luuoOp run op a e s.top (.start s (some iw)) = luuoBlock op a ea (.start s (some iw)) := by
  simp only [luuoOp, instrEa_ok h, Run.ok_bind, Mach.start_st, hz, if_false]

/-- The words of the sketch: the flags with opcode and AC field, PC+1, ConvE(E). -/
theorem State.trapWords_luuoSketch (s : State) (op : BitVec 9) (a : AcNum) (ea : EA) (b : BlockAddressing) :
    s.trapWords (luuoData s op a ea) (LuuoLayout.sketch b).words =
      [(0, s.flagsAndOpcode op a), (1, wordOfAddr (s.pcPlus 1)), (2, wordOfAddr (convE ea))] := by
  simp only [State.trapWords, LuuoLayout.sketch, List.map, State.assemble_flagsAndOpcode, State.assemble_last]
  rfl

/-- The address word of the sketch is word 420 of the table of the mode. -/
theorem State.luuoPointer_sketch (s : State) (b : BlockAddressing) :
    s.luuoPointer (.sketch b) = Memory.read s.mem ((if s.mode = .user then s.upt else s.ept).toNat + 0o420) := by
  unfold State.luuoPointer State.luuoTable
  split <;> rfl

/-- A word of a block in the current context, where it does not lie past 7777,,777777 or that is not refused (20_memory.md R70). -/
theorem Mach.blockWord_ok {m : Mach} {base : Addr} {k : Nat} (h : m.st.cfg.rulings = .run ∨ base.toNat + k < 2 ^ 30) :
    m.blockWord base k = .ok (inc^[k] ⟨base, .glob⟩) := by
  have hr : m.ruling (Nat.ble (2 ^ 30) (base.toNat + k)) .addressTop = .ok () := by
    rcases h with h | h
    · exact Mach.ruling_run h _ _
    · rw [Bool.eq_false_iff.2 fun hn => absurd (Nat.le_of_ble_eq_true hn) (Nat.not_le.2 h)]
      exact Mach.ruling_false m _
  rw [Mach.blockWord, hr]
  rfl

/-- One word stored in a block in the current context. -/
theorem storeBlock_cons {m : Mach} {base : Addr} {k : Nat} {l : Loc} (h : m.st.cfg.rulings = .run ∨ base.toNat + k < 2 ^ 30)
    (hl : m.st.locate (inc^[k] ⟨base, .glob⟩) .cur .write = .ok l) (v : Word) (ws : List (Nat × Word)) :
    storeBlock base ((k, v) :: ws) m = storeBlock base ws (m.put l v) := by
  simp only [storeBlock, Mach.blockWord_ok h, Run.ok_bind, Mach.write_ok hl]

/-- The LUUO through a block in the current context: its words stored, then the jump through the new-PC word. -/
theorem luuoBlock_current {m m' : Mach} {lb : LuuoLayout} {base : Addr} {l : Loc} {op : BitVec 9} {a : AcNum} {ea : EA}
    (hlb : m.st.cfg.traps.luuoBlock = some lb) (hc : lb.addressing = .current) (hb : addrOf (m.st.luuoPointer lb) = base)
    (hs : storeBlock base (m.st.trapWords (luuoData m.st op a ea) lb.words) m = .ok m')
    (hk : m'.st.cfg.rulings = .run ∨ base.toNat + lb.newPc < 2 ^ 30)
    (hl : m'.st.locate (inc^[lb.newPc] ⟨base, .glob⟩) .cur .read = .ok l) :
    luuoBlock op a ea m = .ok (m'.setPc (addrOf (m'.st.get l))) := by
  simp only [luuoBlock, hlb, hc, hb, hs, Run.ok_bind, Mach.blockWord_ok hk, Mach.read_ok hl, Run.pure_eq]

/-- Words stored in physical words, each at its number from `base` on. -/
def State.putCells (s : State) (base : Nat) (ws : List (Nat × Word)) : State :=
  ws.foldl (fun t w => t.put (.cell (base + w.1)) w.2) s

/-- They leave the ACs, the flags, the mode and the context alone. -/
theorem State.putCells_frame (base : Nat) (ws : List (Nat × Word)) :
    ∀ s : State, (s.putCells base ws).flags = s.flags ∧ (s.putCells base ws).mode = s.mode ∧
      (s.putCells base ws).context = s.context ∧ (s.putCells base ws).acs = s.acs := by
  induction ws with
  | nil => exact fun _ => ⟨rfl, rfl, rfl, rfl⟩
  | cons w ws ih => exact fun s => ih (s.put (.cell (base + w.1)) w.2)

/-- Where their numbers are apart each word is there afterwards, and no other word has changed. -/
theorem State.storedAt_putCells (base : Nat) (ws : List (Nat × Word)) (hn : (ws.map Prod.fst).Nodup) :
    ∀ s : State, Memory.wf s.mem = true → s.storedAt (s.putCells base ws) base ws := by
  induction ws with
  | nil => exact fun _ _ => ⟨List.forall_mem_nil _, fun _ _ => rfl⟩
  | cons w ws ih =>
    intro s hs
    obtain ⟨hw, hn⟩ := List.nodup_cons.1 hn
    obtain ⟨hin, hout⟩ := ih hn (s.put (.cell (base + w.1)) w.2) (State.put_wf hs _ _)
    have hapart : ∀ u ∈ ws, base + w.1 ≠ base + u.1 := fun u hu he =>
      hw (List.mem_map.2 ⟨u, hu, (Nat.add_left_cancel he).symm⟩)
    refine ⟨List.forall_mem_cons.2 ⟨(hout _ hapart).trans (Memory.read_write_same hs _ _), hin⟩, fun p hp => ?_⟩
    obtain ⟨hpw, hp⟩ := List.forall_mem_cons.1 hp
    exact (hout p hp).trans (Memory.read_write_other hpw _)

/-- A block addressed physically can always be stored into. -/
theorem storePlaced_physical (base : Word) (ws : List (Nat × Word)) :
    ∀ m : Mach, ∃ m', storePlaced none base ws m = some m' ∧ m'.st = m.st.putCells base.toNat ws := by
  induction ws with
  | nil => exact fun m => ⟨m, rfl, rfl⟩
  | cons w ws ih => exact fun m => ih (m.put (.cell (base.toNat + w.1)) w.2)

/-- The LUUO through a block addressed physically: its words stored, then the jump through the new-PC word. -/
theorem luuoBlock_physical {m : Mach} {lb : LuuoLayout} (hlb : m.st.cfg.traps.luuoBlock = some lb)
    (hp : lb.addressing = .placed none) (op : BitVec 9) (a : AcNum) (ea : EA) :
    let t := m.st.putCells (m.st.luuoPointer lb).toNat (m.st.trapWords (luuoData m.st op a ea) lb.words)
    ∃ m', luuoBlock op a ea m = .ok m' ∧
      m'.st = t.goto (addrOf (Memory.read t.mem ((m.st.luuoPointer lb).toNat + lb.newPc))) := by
  intro t
  obtain ⟨m', hs, hst⟩ :=
    storePlaced_physical (m.st.luuoPointer lb) (m.st.trapWords (luuoData m.st op a ea) lb.words) m
  refine ⟨m'.setPc (addrOf (m'.st.get (.cell ((m.st.luuoPointer lb).toNat + lb.newPc)))), ?_, ?_⟩
  · simp only [luuoBlock, hlb, hp, hs, State.blockPlace]
  · rw [Mach.setPc_st, hst]
    rfl

/-- The LUUO through the sketch's block in the current context. -/
theorem luuoBlock_sketch_current {s : State} {op : BitVec 9} {a : AcNum} {ea : EA} {base : Addr} {l0 l1 l2 l3 : Loc}
    (hlb : s.cfg.traps.luuoBlock = some (.sketch .current)) (hb : addrOf (s.luuoPointer (.sketch .current)) = base)
    (hfit : s.cfg.rulings = .run ∨ base.toNat + 3 < 2 ^ 30) (h0 : s.locate ⟨base, .glob⟩ .cur .write = .ok l0)
    (h1 : s.locate (inc ⟨base, .glob⟩) .cur .write = .ok l1) (h2 : s.locate (inc (inc ⟨base, .glob⟩)) .cur .write = .ok l2)
    (h3 : s.locate (inc (inc (inc ⟨base, .glob⟩))) .cur .read = .ok l3) (iw : Word) :
    let s1 := ((s.put l0 (s.flagsAndOpcode op a)).put l1 (wordOfAddr (s.pcPlus 1))).put l2 (wordOfAddr (convE ea))
    ∃ m, luuoBlock op a ea (.start s (some iw)) = .ok m ∧ m.st = s1.goto (addrOf (s1.get l3)) := by
  intro s1
  let m0 := Mach.put (.start s (some iw)) l0 (s.flagsAndOpcode op a)
  let m1 := m0.put l1 (wordOfAddr (s.pcPlus 1))
  let m2 := m1.put l2 (wordOfAddr (convE ea))
  have hfits : ∀ {t : State} {k : Nat}, t.cfg = s.cfg → k ≤ 3 → t.cfg.rulings = .run ∨ base.toNat + k < 2 ^ 30 := by
    intro t k ht hk
    rw [ht]
    exact hfit.imp_right fun h => by omega
  have hc0 : m0.st.cfg = s.cfg := State.put_cfg ..
  have hc1 : m1.st.cfg = s.cfg := (State.put_cfg ..).trans hc0
  have hc2 : m2.st.cfg = s.cfg := (State.put_cfg ..).trans hc1
  have hl1 : m0.st.locate (inc ⟨base, .glob⟩) .cur .write = .ok l1 := by simpa [m0] using h1
  have hl2 : m1.st.locate (inc (inc ⟨base, .glob⟩)) .cur .write = .ok l2 := by simpa [m0, m1] using h2
  have hl3 : m2.st.locate (inc (inc (inc ⟨base, .glob⟩))) .cur .read = .ok l3 := by simpa [m0, m1, m2] using h3
  have hs : storeBlock base (s.trapWords (luuoData s op a ea) (LuuoLayout.sketch .current).words) (.start s (some iw)) = .ok m2 := by
    rw [State.trapWords_luuoSketch, storeBlock_cons (k := 0) (hfits rfl (by decide)) h0,
      storeBlock_cons (m := m0) (k := 1) (hfits hc0 (by decide)) hl1,
      storeBlock_cons (m := m1) (k := 2) (hfits hc1 (by decide)) hl2]
    rfl
  exact ⟨_, luuoBlock_current (m := .start s (some iw)) hlb rfl hb hs (hfits hc2 le_rfl) hl3, rfl⟩

/-- Settles O53: the words of the block are stored at their places, physical or found by Inc from the address word, and the PC
comes from the block as it then stands. (`luuoBlock` is the model's own name for the mechanism.) -/
theorem luuoBlockHolds : Obligations.LuuoBlock := by
  intro p hp a e s ea b k l0 l1 l2 l3 hea hz
  refine ⟨?sketch, fun lb hlb hadd hapart hwf => ?layout⟩
  case sketch =>
    rintro hk hplace s1
    have hptr : ∀ bl, s.luuoPointer (.sketch bl) = Memory.read s.mem k := fun bl => by rw [State.luuoPointer_sketch, hk]
    refine exec_luuo hp fun iw => ?_
    rw [luuoOp_sectionNonzero hea hz]
    rcases hplace with ⟨hlb, rfl, hfit, h0, h1, h2, h3⟩ | ⟨hlb, rfl, rfl, rfl, rfl⟩
    · exact luuoBlock_sketch_current hlb (by rw [hptr]) hfit h0 h1 h2 h3 iw
    · obtain ⟨m', hm, hst⟩ := luuoBlock_physical (m := .start s (some iw)) hlb rfl p.1 a ea
      refine ⟨m', hm, ?_⟩
      rw [hst, Mach.start_st, hptr, State.trapWords_luuoSketch]
      rfl
  case layout =>
    let t := s.putCells (s.luuoPointer lb).toNat (s.trapWords (luuoData s p.1 a ea) lb.words)
    have hrun : ∀ iw, ∃ m, luuoOp runWord p.1 a e s.top (.start s (some iw)) = .ok m ∧
        m.st = t.goto (addrOf (Memory.read t.mem ((s.luuoPointer lb).toNat + lb.newPc))) := fun iw => by
      rw [luuoOp_sectionNonzero hea hz]
      exact luuoBlock_physical (m := .start s (some iw)) hlb hadd p.1 a ea
    have hstored : s.storedAt t (s.luuoPointer lb).toNat (s.trapWords (luuoData s p.1 a ea) lb.words) :=
      State.storedAt_putCells _ _ (by simpa [State.trapWords, Function.comp_def] using hapart) s hwf
    exact ⟨t.goto (addrOf (Memory.read t.mem ((s.luuoPointer lb).toNat + lb.newPc))), exec_luuo hp hrun, hstored, rfl,
      State.putCells_frame ..⟩

end Sys2Proof.Machine
end

section
/-! PROOFS. The general family (spec/47_general.md): MOVE and SKIPA, and the immediate moves with ConvE. -/

namespace Sys2Proof.Machine

/-! ## MOVE and SKIPA (R395, R397) -/

/-- MOVE at PC: the word read at E goes to the AC. -/
theorem bodyMove_top {s : State} {e : AddrFields} {ea : EA} {l : Loc} (hea : s.eaOf e = .ok ea)
    (hl : s.locate ea .cur .read = .ok l) (a : AcNum) (iw : Option Word) :
    bodyMove a e s.top (.start s iw) = .ok (((Mach.start s iw).setX a (s.get l)).advance 1) := by
  have hr : (Mach.start s iw).read ea .cur = .ok (s.get l) := Mach.read_ok hl
  simp only [bodyMove, instrEa_ok hea, Run.ok_bind, State.top_dataCtx, hr, Run.pure_eq]

/-- A MOVE whose EA-calc page fails stops there, nothing written. -/
theorem bodyMove_eaPageFail {s : State} {e : AddrFields} {pf : PageFail} (hea : s.eaOf e = .error (.pageFail pf)) (a : AcNum)
    (iw : Option Word) : bodyMove a e s.top (.start s iw) = .error (.trap (.pageFail pf) (.start s iw)) := by
  simp only [bodyMove, instrEa_pageFail hea, Run.error_bind]

/-- SKIPA at PC: the word read at E goes to the AC unless that is AC 0. -/
theorem bodySkipa_top {s : State} {e : AddrFields} {ea : EA} {l : Loc} (hea : s.eaOf e = .ok ea)
    (hl : s.locate ea .cur .read = .ok l) (a : AcNum) (iw : Option Word) :
    bodySkipa a e s.top (.start s iw) =
      .ok ((if a = 0 then .start s iw else (Mach.start s iw).setX a (s.get l)).advance 2) := by
  have hr : (Mach.start s iw).read ea .cur = .ok (s.get l) := Mach.read_ok hl
  simp only [bodySkipa, instrEa_ok hea, Run.ok_bind, State.top_dataCtx, hr, Run.pure_eq]

/-- Settles O20: each meaning is its EA-calc, its read, and its store in the AC, and a failing EA-calc or read comes before
the store. -/
theorem moveAndSkipa : Obligations.MoveAndSkipa := by
  refine ⟨fun a e s => ⟨fun ea l hea hl => ?move, fun pf ht hfail => ?moveFails⟩, fun a e s ea l hea hl => ?skipa⟩
  case move => exact exec_next ⟨_, bodyMove_top hea hl a _, rfl⟩
  case moveFails =>
    rcases hfail with hea | ⟨ea, hea, hread⟩
    · exact exec_pageFail ht (bodyMove_eaPageFail hea a _)
    · exact exec_move_pageFail hea hread ht
  case skipa =>
    refine exec_next ⟨_, bodySkipa_top hea hl a _, ?_⟩
    by_cases ha : a = 0
    · rw [if_pos ha, if_pos ha]
      rfl
    · rw [if_neg ha, if_neg ha]
      rfl

/-! ## The immediate moves (R391, R392, R394) -/

/-- MOVEI at PC: the in-section part of E goes to the AC. -/
theorem bodyMovei_top {s : State} {e : AddrFields} {ea : EA} (hea : s.eaOf e = .ok ea) (a : AcNum) (iw : Option Word) :
    bodyMovei a e s.top (.start s iw) = .ok (((Mach.start s iw).setX a (join 0 (offOf ea.addr))).advance 1) := by
  simp only [bodyMovei, instrEa_ok hea, Run.ok_bind, Run.pure_eq]

/-- XMOVEI at PC: ConvE of E goes to the AC. -/
theorem bodyXmovei_top {s : State} {e : AddrFields} {ea : EA} (hea : s.eaOf e = .ok ea) (a : AcNum) (iw : Option Word) :
    bodyXmovei a e s.top (.start s iw) = .ok (((Mach.start s iw).setX a (wordOfAddr (convE ea))).advance 1) := by
  simp only [bodyXmovei, instrEa_ok hea, Run.ok_bind, Run.pure_eq]

/-- XHLLI at PC: the section of ConvE of E goes to the left half of the AC. -/
theorem bodyXhlli_top {s : State} {e : AddrFields} {ea : EA} (hea : s.eaOf e = .ok ea) (a : AcNum) (iw : Option Word) :
    bodyXhlli a e s.top (.start s iw) =
      .ok (((Mach.start s iw).setX a (join ((secOf (convE ea)).setWidth 18) (rh (s.x a)))).advance 1) := by
  simp only [bodyXhlli, instrEa_ok hea, Run.ok_bind, Run.pure_eq, Mach.x_st, Mach.start_st]

/-- ConvE of an address put together from its parts (R390). -/
theorem convE_mkAddr (s : Sec) (n : Half) (f : RefFlag) :
    convE ⟨mkAddr s n, f⟩ = if f = .loc ∧ n.toNat ≤ 0o17 ∧ s ≠ 0 then mkAddr 1 n else mkAddr s n := by
  have hn : n ≤ 0o17 ↔ n.toNat ≤ 0o17 := BitVec.le_def
  simp only [convE, offOf_mkAddr, secOf_mkAddr, hn]

/-- Settles O21: each meaning is its EA-calc and its store in the AC, with no read between them. -/
theorem immediateMoves : Obligations.ImmediateMoves := by
  refine ⟨fun a e s ea hea => ⟨?movei, ?xmovei, ?xhlli⟩, convE_mkAddr⟩
  case movei => exact exec_next ⟨_, bodyMovei_top hea a _, rfl⟩
  case xmovei => exact exec_next ⟨_, bodyXmovei_top hea a _, rfl⟩
  case xhlli => exact exec_next ⟨_, bodyXhlli_top hea a _, rfl⟩

end Sys2Proof.Machine
end

section
/-! PROOFS. The reset state (spec/70_reset_and_hazards.md R530): its values are the model's choice (log 2). -/

namespace Sys2Proof.Machine

/-- Memory with no word listed is canonical (log 3). -/
@[simp] theorem Memory.wf_nil : Memory.wf [] = true := rfl

/-- With no flag set the mode is EXEC (R30, log 14). -/
@[simp] theorem modeOf_zero : modeOf 0 = .exec := rfl

/-- The range of the parameters speaks of NSECT and PCS_BITS alone, so choosing another answer to an overflow of the stack count or
to the cases of log 47 keeps it. -/
theorem configInRange_withChoices {c : Config} (h : configInRange c) (so : StackOverflow) (r : Rulings) :
    configInRange { c with stackOverflow := so, rulings := r } := h

/-- The KC10's NSECT and PCS_BITS are the largest in their ranges (R5, R6). -/
theorem configInRange_kc10 : configInRange .kc10 := ⟨by decide, Nat.le_refl 4096, Nat.le_refl 12⟩

/-- Settles O5: memory is empty, FLAGS and PCS are 0 in exec mode, and the parameters are the KC10's but for two choices the
invariant does not speak of. -/
theorem resetInv : Obligations.ResetInv where
  mem := Memory.wf_nil
  mode := modeOf_zero.symm
  pcs := Nat.two_pow_pos State.reset.cfg.pcsBits
  cfg := configInRange_withChoices configInRange_kc10 .continue .run

end Sys2Proof.Machine
end

section
/-! PROOFS. The encoding (spec/30_encoding.md): the decoder and the encoder undo each other. -/

namespace Sys2Proof.Machine

/-! ## From an instruction to its word and back -/

/-- The decoder sees of an instruction word its opcode, its AC field and its address part; the input-output row sees the rest. -/
theorem decode_instrWord (op : BitVec 9) (a : AcNum) (e : AddrFields) :
    decode (instrWord op a e) = decodeFields op a e ((instrWord op a e).extractLsb' 0 33) := by
  rw [decode, opField_instrWord, acField_instrWord, fieldsOf_instrWord]

/-- Opcodes 040 to 077 are one row, bits 4-8 of the opcode its own (30_encoding.md R121). -/
theorem decodeFields_muuo040 (lo : BitVec 5) (a : AcNum) (e : AddrFields) (rest : BitVec 33) :
    decodeFields ((1 : BitVec 4) ++ lo) a e rest = .muuo040 lo a e := by
  have hop : ((1 : BitVec 4) ++ lo).toNat = 0o40 + lo.toNat := by revert lo; decide
  have hd : ((1 : BitVec 4) ++ lo).toNat / 0o100 = 0 := by have := lo.isLt; omega
  have hlo : ((1 : BitVec 4) ++ lo).setWidth 5 = lo := BitVec.setWidth_append_eq_right
  unfold decodeFields
  rw [hd]
  simp only [hlo, hop, Nat.not_lt.2 (Nat.le_add_right 0o40 lo.toNat), if_false]

/-- The leading octal digit of the opcode of a word is its leading octal digit. -/
theorem opField_div (w : Word) : (opField w).toNat / 0o100 = w.toNat / 2 ^ 33 := by
  have := w.isLt
  simp only [opField, BitVec.extractLsb'_toNat, Nat.shiftRight_eq_div_pow]
  omega

/-- Opcodes 700 to 777 are one row, bits 3-35 of the word its own (30_encoding.md R121). -/
theorem decode_io (r : BitVec 33) : decode ((7 : BitVec 3) ++ r) = .io r := by
  have hd : (opField ((7 : BitVec 3) ++ r)).toNat / 0o100 = 7 := by
    have := r.isLt
    rw [opField_div, BitVec.toNat_append, ← Nat.shiftLeft_add_eq_or_of_lt r.isLt, Nat.shiftLeft_eq]
    have h7 : (7 : BitVec 3).toNat = 7 := rfl
    omega
  have hr : ((7 : BitVec 3) ++ r).extractLsb' 0 33 = r := BitVec.extractLsb'_append_eq_right
  unfold decode decodeFields
  rw [hd, hr]
  rfl

/-- A PXCT is an XCT whose AC field is not zero (30_encoding.md R116). -/
theorem decodeFields_pxct {n : AcNum} (h : n ≠ 0) (e : AddrFields) (rest : BitVec 33) :
    decodeFields 0o256 n e rest = .pxct n e := if_neg h

/-- An instruction word is decoded from its encoding. -/
theorem decode_encode {i : Instr} (hw : i.wellFormed = true) (hx : i.extendAc = none) : decode (encode i) = i := by
  cases i
  case muuo040 lo a e => exact (decode_instrWord _ a e).trans (decodeFields_muuo040 lo a e _)
  case pxct n e => exact (decode_instrWord _ n e).trans (decodeFields_pxct (bne_iff_ne.1 hw) e _)
  case io r => exact decode_io r
  case cmpsl | cmpse | cmpsle | edit | cmpsge | cmpsn | cmpsg | cvtdbo | cvtdbt | cvtbdo | cvtbdt | movso | movst | movslj
    | movsrj | xblt => cases hx
  all_goals exact decode_instrWord _ _ _

/-- An extended opcode word shows its opcode, bits 9-12 and its address part. -/
theorem decodeExt_encode {i : Instr} {a : AcNum} (hx : i.extendAc = some a) : ∃ e0, decodeExt a e0 (encode i) = some i := by
  cases i
  case cmpsl | cmpse | cmpsle | edit | cmpsge | cmpsn | cmpsg | cvtdbo | cvtdbt | cvtbdo | cvtbdt | movso | movst | movslj
      | movsrj | xblt =>
    rename_i e0 z e
    cases hx
    refine ⟨e0, ?_⟩
    rw [decodeExt, encode, opField_instrWord, acField_instrWord, fieldsOf_instrWord]
    rfl
  all_goals cases hx

/-- Settles O1: the word of an instruction shows the decoder its opcode and its fields, which single out its row. -/
theorem decodeEncode : Obligations.DecodeEncode :=
  ⟨fun _ hw hx => decode_encode hw hx, fun _ _ hx => decodeExt_encode hx⟩

/-! ## From a word to its instruction and back -/

/-- `i` is a well-formed instruction word with opcode `op`, AC field `a` and address part `e`. -/
structure ReadsAs (i : Instr) (op : Nat) (a : AcNum) (e : AddrFields) : Prop where
  /-- its encoding -/
  encode : encode i = instrWord (BitVec.ofNat 9 op) a e
  /-- one the encoding can hold -/
  wellFormed : i.wellFormed = true
  /-- no extended instruction -/
  instrWord : i.extendAc = none

theorem reads_decodeOp0 {n : Nat} (h : n < 0o40) (a : AcNum) (e : AddrFields) : ReadsAs (decodeOp0 n a e) n a e := by
  interval_cases n <;> exact ⟨rfl, rfl, rfl⟩

theorem reads_decodeOp1 {n : Nat} (h : n < 0o100) (a : AcNum) (e : AddrFields) : ReadsAs (decodeOp1 n a e) (0o100 + n) a e := by
  interval_cases n <;> exact ⟨rfl, rfl, rfl⟩

/-- The functions of opcode 254 are the values of its AC field. -/
theorem reads_decodeJrst (a : AcNum) (e : AddrFields) : ReadsAs (decodeJrst a.toNat e) 0o254 a e := by
  have h : a.toNat < 0o20 := a.isLt
  have ha : a = BitVec.ofNat 4 a.toNat := by simp
  rw [ha]
  generalize a.toNat = n at h
  interval_cases n <;> exact ⟨rfl, rfl, rfl⟩

/-- Opcode 256 is XCT with AC field zero, PXCT with any other. -/
theorem reads_decodeXct (a : AcNum) (e : AddrFields) :
    ReadsAs (if a = 0 then .xct e else .pxct a e) 0o256 a e := by
  split
  · next h => rw [h]; exact ⟨rfl, rfl, rfl⟩
  · next h => exact ⟨rfl, bne_iff_ne.2 h, rfl⟩

theorem reads_decodeOp2 {n : Nat} (h : n < 0o100) (a : AcNum) (e : AddrFields) : ReadsAs (decodeOp2 n a e) (0o200 + n) a e := by
  by_cases h1 : n = 0o54
  · subst h1; exact reads_decodeJrst a e
  by_cases h2 : n = 0o56
  · subst h2; exact reads_decodeXct a e
  interval_cases n <;> first | exact ⟨rfl, rfl, rfl⟩ | contradiction

theorem reads_decodeOp3 {n : Nat} (h : n < 0o100) (a : AcNum) (e : AddrFields) : ReadsAs (decodeOp3 n a e) (0o300 + n) a e := by
  interval_cases n <;> exact ⟨rfl, rfl, rfl⟩

theorem reads_decodeOp4 {n : Nat} (h : n < 0o100) (a : AcNum) (e : AddrFields) : ReadsAs (decodeOp4 n a e) (0o400 + n) a e := by
  interval_cases n <;> exact ⟨rfl, rfl, rfl⟩

theorem reads_decodeOp5 {n : Nat} (h : n < 0o100) (a : AcNum) (e : AddrFields) : ReadsAs (decodeOp5 n a e) (0o500 + n) a e := by
  interval_cases n <;> exact ⟨rfl, rfl, rfl⟩

theorem reads_decodeOp6 {n : Nat} (h : n < 0o100) (a : AcNum) (e : AddrFields) : ReadsAs (decodeOp6 n a e) (0o600 + n) a e := by
  interval_cases n <;> exact ⟨rfl, rfl, rfl⟩

/-- Opcodes 040 to 077. -/
theorem reads_muuo040 {op : BitVec 9} (h1 : 0o40 ≤ op.toNat) (h2 : op.toNat < 0o100) (a : AcNum) (e : AddrFields) :
    ReadsAs (.muuo040 (op.setWidth 5) a e) op.toNat a e := by
  refine ⟨?_, rfl, rfl⟩
  have hop : (1 : BitVec 4) ++ op.setWidth 5 = BitVec.ofNat 9 op.toNat := by
    refine BitVec.eq_of_toNat_eq ?_
    rw [BitVec.toNat_append, ← Nat.shiftLeft_add_eq_or_of_lt (op.setWidth 5).isLt, Nat.shiftLeft_eq]
    have h1 : (1 : BitVec 4).toNat = 1 := rfl
    simp only [BitVec.toNat_ofNat, BitVec.toNat_setWidth]
    omega
  exact congrArg (instrWord · a e) hop

/-- The instruction of an opcode below 700. -/
theorem reads_decodeFields {op : BitVec 9} (h : op.toNat < 0o700) (a : AcNum) (e : AddrFields) (rest : BitVec 33) :
    ReadsAs (decodeFields op a e rest) op.toNat a e := by
  have hm : op.toNat % 0o100 < 0o100 := Nat.mod_lt _ (by decide)
  have hop : op.toNat = 0o100 * (op.toNat / 0o100) + op.toNat % 0o100 := (Nat.div_add_mod ..).symm
  have hd : op.toNat / 0o100 < 7 := by omega
  unfold decodeFields
  generalize op.toNat % 0o100 = n at hm hop
  generalize hk : op.toNat / 0o100 = k at hd hop
  interval_cases k
  · change ReadsAs (if op.toNat < 0o40 then decodeOp0 op.toNat a e else .muuo040 (op.setWidth 5) a e) _ a e
    split
    · next h0 => exact reads_decodeOp0 h0 a e
    · next h0 => exact reads_muuo040 (by omega) (by omega) a e
  all_goals rw [hop]
  · exact reads_decodeOp1 hm a e
  · exact reads_decodeOp2 hm a e
  · exact reads_decodeOp3 hm a e
  · exact reads_decodeOp4 hm a e
  · exact reads_decodeOp5 hm a e
  · exact reads_decodeOp6 hm a e

/-- A word whose opcode is 700 or above is the input-output row's. -/
theorem encode_io {w : Word} (h : 0o700 ≤ (opField w).toNat) :
    decode w = .io (w.extractLsb' 0 33) ∧ (7 : BitVec 3) ++ w.extractLsb' 0 33 = w := by
  have hlt := (opField w).isLt
  have hd : (opField w).toNat / 0o100 = 7 := by omega
  refine ⟨?_, ?_⟩
  · unfold decode decodeFields
    rw [hd]
    rfl
  · refine BitVec.eq_of_toNat_eq ?_
    rw [opField_div] at hd
    rw [BitVec.toNat_append, ← Nat.shiftLeft_add_eq_or_of_lt (w.extractLsb' 0 33).isLt, Nat.shiftLeft_eq]
    have h7 : (7 : BitVec 3).toNat = 7 := rfl
    simp only [BitVec.extractLsb'_toNat, Nat.shiftRight_zero]
    omega

/-- Every word is the encoding of the well-formed instruction word it decodes to. -/
theorem encode_decode (w : Word) : encode (decode w) = w ∧ (decode w).wellFormed = true ∧ (decode w).extendAc = none := by
  by_cases h : (opField w).toNat < 0o700
  · obtain ⟨he, hw, hx⟩ := reads_decodeFields h (acField w) (fieldsOf w) (w.extractLsb' 0 33)
    refine ⟨he.trans ?_, hw, hx⟩
    rw [BitVec.ofNat_toNat, BitVec.setWidth_eq, instrWord_fields]
  · obtain ⟨hd, hw⟩ := encode_io (Nat.le_of_not_lt h)
    rw [hd]
    exact ⟨hw, rfl, rfl⟩

/-- An extended opcode word is the encoding of the instruction it selects. -/
theorem encode_decodeExt {a : AcNum} {e0 : EA} {w : Word} {i : Instr} (h : decodeExt a e0 w = some i) :
    encode i = w ∧ i.extendAc = some a := by
  have hw : instrWord (BitVec.ofNat 9 (opField w).toNat) (acField w) (fieldsOf w) = w := by
    rw [BitVec.ofNat_toNat, BitVec.setWidth_eq, instrWord_fields]
  unfold decodeExt at h
  generalize (opField w).toNat = k at h hw
  by_cases hk : k < 17
  · interval_cases k
    · cases h
    all_goals
      cases h
      exact ⟨hw, rfl⟩
  · obtain ⟨j, rfl⟩ := Nat.exists_eq_add_of_le (Nat.le_of_not_lt hk)
    rw [Nat.add_comm] at h
    cases h

/-- Settles O2: the row a word decodes to keeps the opcode, the AC field and the address part, and these are the whole word. -/
theorem encodeDecode : Obligations.EncodeDecode :=
  ⟨encode_decode, fun _ _ _ _ h => encode_decodeExt h⟩

end Sys2Proof.Machine
end

section
/-! PROOFS. Every step (spec/10_state.md section 1, 60_exceptions.md sections 3 and 4): the invariant, the context registers, user mode
and the places a step stores in, all from what `Mach.Act` and `Mach.Done` allow and from the entry of a trap. -/

namespace Sys2Proof.Machine

/-! ## Flags -/

/-- A flag that is set to a value holds it, and the others are as before. -/
theorem flagAt_withFlag (f : Flags) {i j : Nat} (hi : i < 13) (hj : j < 13) (b : Bool) :
    flagAt (withFlag f i b) j = if j = i then b else flagAt f j := by
  have hat : ∀ g : Flags, flagAt g j = g.getLsbD (12 - j) := fun g => by simp [flagAt, BitVec.getMsbD, hj]
  have hbit : ((1 : Flags) <<< (12 - i)).getLsbD (12 - j) = decide (j = i) := by
    rw [BitVec.getLsbD_shiftLeft, show (1 : Flags) = 1#13 from rfl, BitVec.getLsbD_one, Bool.eq_iff_iff]
    simp
    omega
  have hlt : 12 - j < 13 := by omega
  rw [hat, hat]
  cases b
  · simp only [withFlag, Bool.false_eq_true, if_false, BitVec.getLsbD_and, BitVec.getLsbD_not, hbit, hlt]
    split <;> simp_all
  · simp only [withFlag, if_true, BitVec.getLsbD_or, hbit]
    split <;> simp_all

/-- After a trap USER is clear (60_exceptions.md R488; log 19). -/
theorem userFlag_trapFlags (old free : Flags) : userFlag (trapFlags old free) = false := by
  rw [userFlag, trapFlags, flagAt_withFlag _ (by decide) (by decide), if_neg (by decide),
    flagAt_withFlag _ (by decide) (by decide), if_pos rfl]

/-- After a trap bit 6 is the old user flag (60_exceptions.md R488; log 19). -/
theorem userIoFlag_trapFlags (old free : Flags) : userIoFlag (trapFlags old free) = userFlag old := by
  rw [userIoFlag, trapFlags, flagAt_withFlag _ (by decide) (by decide), if_pos rfl]

/-- A data step leaves the user flag alone (47_general.md R400; log 8). -/
theorem userFlag_mergeFlags (old new : Flags) : userFlag (mergeFlags old new) = userFlag old := by
  simp [userFlag, flagAt, mergeFlags, arithmeticMask, BitVec.getMsbD]

/-- No flag restore clears the user flag (43_jumps.md R272; log 15). -/
theorem userFlag_restoredFlags {old : Flags} (h : userFlag old = true) (new : Flags) : userFlag (restoredFlags old new) = true := by
  rw [restoredFlags, if_pos h, userFlag, flagAt_withFlag _ (by decide) (by decide), if_neg (by decide),
    flagAt_withFlag _ (by decide) (by decide), if_pos rfl]

/-- The mode and the user flag say the same. -/
theorem modeOf_eq_user {f : Flags} : modeOf f = .user ↔ userFlag f = true := by
  unfold modeOf
  split <;> simp_all

/-- What PCS holds fits its register (10_state.md R25). -/
theorem State.pcsOf_lt (s : State) (x : Sec) : (s.pcsOf x).toNat < 2 ^ s.cfg.pcsBits := by
  have h : x.toNat % 2 ^ s.cfg.pcsBits < 2 ^ s.cfg.pcsBits := Nat.mod_lt _ (Nat.two_pow_pos _)
  exact lt_of_le_of_lt (by simpa [State.pcsOf] using Nat.mod_le _ _) h

/-! ## What a step can do -/

/-- Only the ACs, memory and the counter of free values differ. -/
structure State.SameRegs (s t : State) : Prop where
  /-- everything else -/
  regs : t = { s with acs := t.acs, mem := t.mem, freeCtr := t.freeCtr }

theorem State.SameRegs.trans {s t u : State} (h1 : s.SameRegs t) (h2 : t.SameRegs u) : s.SameRegs u :=
  ⟨by rw [h2.regs, h1.regs]⟩

theorem State.SameRegs.put (s : State) (l : Loc) (v : Word) : s.SameRegs (s.put l v) := by cases l <;> exact ⟨rfl⟩

/-- Making the places written free changes no register (60_exceptions.md R489; log 21), and keeps memory canonical. -/
theorem State.scramble_frame (ls : List Loc) : ∀ s : State,
    s.SameRegs (s.scramble ls) ∧ (Memory.wf s.mem = true → Memory.wf (s.scramble ls).mem = true) := by
  induction ls with
  | nil => exact fun s => ⟨⟨rfl⟩, id⟩
  | cons l ls ih =>
    intro s
    obtain ⟨same, wf⟩ := ih { s.put l (Config.freeWord s.freeCtr) with freeCtr := s.freeCtr + 1 }
    refine ⟨.trans ⟨?_⟩ same, fun h => wf (State.put_wf h _ _)⟩
    cases l <;> rfl

/-- The changes of an instruction in progress touch no register. -/
theorem Mach.Acts.sameRegs {m0 m : Mach} (h : Mach.Acts m0 m) : m0.st.SameRegs m.st := by
  induction h with
  | refl => exact ⟨rfl⟩
  | tail _ h ih =>
    refine ih.trans ?_
    cases h with
    | write v _ _ => exact .put _ _ v
    | block v _ _ _ _ => exact .put _ _ v
    | _ => exact ⟨rfl⟩

/-- How a step ends: an instruction that `Mach.Done` ends, or, after what an instruction did (nothing where the fetch failed), the entry
of a trap: every place written made free, the words of the entry stored, the context changed. -/
theorem step_cases {s t : State} (h : step s = .next t) :
    (∃ iw m, Mach.Done (.start s iw) m ∧ t = m.st) ∨
      (∃ iw m en tbl d s' a, Mach.Acts (.start s iw) m ∧ hasEntry (m.st.scramble m.log).cfg en ∧
        (m.st.scramble m.log).storeInBlock ((m.st.scramble m.log).blockBase en.base tbl).1
          ((m.st.scramble m.log).blockBase en.base tbl).2 ((m.st.scramble m.log).trapWords d en.words) = some s' ∧
        t = s'.changeContext a) := by
  have ends : (∃ iw m, Mach.Done (.start s iw) m ∧ t = m.st) ∨
      ∃ iw m tr, Mach.Acts (.start s iw) m ∧ takeTrap tr m = .next t := by
    unfold step at h
    split at h
    · rw [executeWith_eq] at h
      rcases runTop_next (exec_sound _) h with ⟨m, hm, rfl⟩ | ⟨m, tr, hm, ht⟩
      · exact .inl ⟨_, m, hm, rfl⟩
      · exact .inr ⟨_, m, tr, hm, ht⟩
    · exact .inr ⟨_, _, _, .refl, h⟩
  rcases ends with ends | ⟨iw, m, tr, hm, ht⟩
  · exact .inl ends
  · obtain ⟨en, tbl, d, hen, hent⟩ := takeTrap_next ht
    obtain ⟨s', a, hs', rfl⟩ := State.enter_next hent
    exact .inr ⟨iw, m, en, tbl, d, s', a, hm, hen, hs', rfl⟩

/-- The entry of a trap is a context change out of a state that differs in ACs, memory and the counter alone. -/
theorem trapped_from {s s' : State} {m : Mach} {iw : Option Word} {sp : Option Space} {base : Word} {ws : List (Nat × Word)}
    (hm : Mach.Acts (.start s iw) m) (hs : (m.st.scramble m.log).storeInBlock sp base ws = some s') :
    s.SameRegs s' ∧ (Memory.wf s.mem = true → Memory.wf s'.mem = true) := by
  obtain ⟨same, wf⟩ := State.scramble_frame m.log m.st
  obtain ⟨same', wf'⟩ := State.storeInBlock_frame _ _ _ _ _ hs
  have hin : (m.st.scramble m.log).SameRegs s' := ⟨by rw [same']⟩
  exact ⟨(hm.sameRegs.trans same).trans hin, fun h => wf' (wf (hm.wf h))⟩

/-! ## The invariant -/

/-- A context change leaves the invariant, whatever the state it leaves held in MODE and PCS. -/
theorem State.Inv.changeContext {s s' : State} (hs : s.Inv) (same : s.SameRegs s') (wf : Memory.wf s'.mem = true) (a : Addr) :
    (s'.changeContext a).Inv where
  mem := wf
  mode := by
    have hf := userFlag_trapFlags s'.flags ((Config.freeWord s'.freeCtr).setWidth 13)
    rw [State.changeContext_mode, State.changeContext_flags, modeOf, hf]
    rfl
  pcs := State.pcsOf_lt s' _
  cfg := by
    rw [State.changeContext_cfg, same.regs]
    exact hs.cfg

/-- An instruction that ends keeps the invariant: the flags it leaves go with the mode it leaves. -/
theorem State.Inv.done {s : State} (hs : s.Inv) {iw : Option Word} {m : Mach} (h : Mach.Done (.start s iw) m) : m.st.Inv := by
  have acts : ∀ {m}, Mach.Acts (.start s iw) m → m.st.Inv := fun {m} hm => by
    have hr := hm.sameRegs.regs
    refine ⟨hm.wf hs.mem, ?_, ?_, ?_⟩
    · rw [hr]; exact hs.mode
    · rw [hr]; exact hs.pcs
    · rw [hr]; exact hs.cfg
  cases h with
  | flags g a hm =>
    obtain ⟨hmem, hmode, hpcs, hcfg⟩ := acts hm
    exact ⟨hmem, hmode.trans (by simp only [modeOf, userFlag_mergeFlags]), hpcs, hcfg⟩
  | pc a hm =>
    obtain ⟨hmem, hmode, hpcs, hcfg⟩ := acts hm
    exact ⟨hmem, hmode, hpcs, hcfg⟩
  | restore g a hm =>
    obtain ⟨hmem, -, hpcs, hcfg⟩ := acts hm
    exact ⟨hmem, rfl, hpcs, hcfg⟩

/-- Settles O6: an instruction that ends keeps each part of the invariant, and a trap sets MODE, FLAGS and PCS to values that meet it. -/
theorem stepKeepsInv : Obligations.StepKeepsInv := by
  intro s t hs h
  rcases step_cases h with ⟨iw, m, hm, rfl⟩ | ⟨iw, m, en, tbl, d, s', a, hm, -, hs', rfl⟩
  · exact hs.done hm
  · obtain ⟨same, wf⟩ := trapped_from hm hs'
    exact hs.changeContext same (wf hs.mem) a

/-! ## The context registers -/

/-- An instruction that ends leaves the context registers alone. -/
theorem Mach.Done.context {s : State} {iw : Option Word} {m : Mach} (h : Mach.Done (.start s iw) m) : m.st.context = s.context := by
  have acts : ∀ {m}, Mach.Acts (.start s iw) m → m.st.context = s.context := fun hm => by rw [hm.sameRegs.regs]; rfl
  cases h with
  | flags g a hm => exact (acts hm :)
  | pc a hm => exact (acts hm :)
  | restore g a hm => exact (acts hm :)

/-- A context change out of a state that differs from `s` in ACs, memory and the counter alone. -/
theorem State.SameRegs.changeContext {s s' : State} (same : s.SameRegs s') (a : Addr) :
    (s'.changeContext a).context = s.contextAfterTrap ∧ (s'.changeContext a).mode = .exec ∧
      userFlag (s'.changeContext a).flags = false ∧ userIoFlag (s'.changeContext a).flags = userFlag s.flags := by
  refine ⟨?_, rfl, userFlag_trapFlags _ _, (userIoFlag_trapFlags _ _).trans ?_⟩
  · rw [same.regs]; rfl
  · rw [same.regs]

/-- Settles O7: an instruction that ends does not set these registers, and a trap sets them all at once. -/
theorem contextChangesOnlyByTrap : Obligations.ContextChangesOnlyByTrap := by
  intro s t h
  rcases step_cases h with ⟨iw, m, hm, rfl⟩ | ⟨iw, m, en, tbl, d, s', a, hm, -, hs', rfl⟩
  · exact .inl hm.context
  · obtain ⟨hc, hmode, -, -⟩ := (trapped_from hm hs').1.changeContext a
    exact .inr ⟨hc, hmode⟩

/-! ## User mode -/

/-- An instruction that ends in user mode stays there: no jump restores the user flag clear (log 15). -/
theorem Mach.Done.userMode {s : State} {iw : Option Word} {m : Mach} (h : Mach.Done (.start s iw) m) (hm : s.mode = .user)
    (hf : userFlag s.flags = true) : m.st.mode = .user := by
  cases h with
  | flags g a hacts => exact hacts.mode.trans hm
  | pc a hacts => exact hacts.mode.trans hm
  | restore g a hacts =>
    refine modeOf_eq_user.2 (userFlag_restoredFlags ?_ g)
    rw [hacts.sameRegs.regs]
    exact hf

/-- Settles O8: an instruction that ends stays in user mode, and a trap is a context change out of it. -/
theorem userModeLeftOnlyByTrap : Obligations.UserModeLeftOnlyByTrap := by
  intro s t hs hu h
  have hf : userFlag s.flags = true := modeOf_eq_user.1 (hs.mode.symm.trans hu)
  rcases step_cases h with ⟨iw, m, hm, rfl⟩ | ⟨iw, m, en, tbl, d, s', a, hm, -, hs', rfl⟩
  · exact .inl (hm.userMode hu hf)
  · obtain ⟨hc, hmode, huser, hio⟩ := (trapped_from hm hs').1.changeContext a
    simp only [State.context, State.contextAfterTrap, Prod.mk.injEq, hu] at hc
    obtain ⟨hpcs, hpcu, hpab, -⟩ := hc
    exact .inr ⟨hmode, hpcu, hpab, hpcs, huser, hio.trans hf⟩

/-! ## The places a step stores in -/

/-- The places an instruction begun in `s` may store in before it ends: those its references stand for, in previous context only in exec
mode (48_xct_pxct.md R440), the ACs of the current block, and the words of an LUUO block that is not addressed in the current
context. -/
inductive State.MayStore (s : State) : Loc → Prop
  /-- through a reference -/
  | ref {e : EA} {c : Ctx} {l : Loc} : s.locate e c .write = .ok l → (c = .prev → s.mode = .exec) → MayStore s l
  /-- an AC of the current block -/
  | cab (n : AcNum) : MayStore s (.ac s.cab n)
  /-- a word of the LUUO block -/
  | luuo {lb : LuuoLayout} {sp : Option Space} {w : TrapWord} {l : Loc} : s.cfg.traps.luuoBlock = some lb →
      lb.addressing = .placed sp → w ∈ lb.words → s.blockPlace sp (s.luuoPointer lb) w.number .write = some l → MayStore s l

/-- What an instruction has written so far it may store in, and every other place is as at its start. -/
theorem Mach.Acts.stores {m0 m : Mach} (h : Mach.Acts m0 m) (h0 : m0.log = []) :
    (∀ l ∈ m.log, m0.st.MayStore l) ∧ ∀ l, ¬ m0.st.MayStore l → m.st.get l = m0.st.get l := by
  have put : ∀ {m : Mach} {l : Loc} (v : Word), m0.st.MayStore l →
      ((∀ l ∈ m.log, m0.st.MayStore l) ∧ ∀ l, ¬ m0.st.MayStore l → m.st.get l = m0.st.get l) →
      (∀ l' ∈ l :: m.log, m0.st.MayStore l') ∧ ∀ l', ¬ m0.st.MayStore l' → (m.st.put l v).get l' = m0.st.get l' :=
    fun v hl ⟨hlog, hget⟩ => ⟨List.forall_mem_cons.2 ⟨hl, hlog⟩, fun l' hl' =>
      (State.get_put_other _ (fun he => hl' (by rw [he]; exact hl)) v).trans (hget l' hl')⟩
  induction h with
  | refl => exact ⟨by simp [h0], fun _ _ => rfl⟩
  | @tail m' _ hm h ih =>
    have hr := Mach.Acts.sameRegs hm
    cases h with
    | @write e c l v hl hc =>
      refine put v (.ref (e := e) (c := c) ?_ fun he => ?_) ih
      · rw [← hl, hr.regs]; rfl
      · have := hc he; rwa [hr.regs] at this
    | setX n v =>
      refine put v ?_ ih
      have hcab : m'.st.cab = m0.st.cab := by rw [hr.regs]
      rw [hcab]
      exact .cab n
    | drawn => exact ⟨ih.1, fun l hl => (State.get_draw ..).trans (ih.2 l hl)⟩
    | word w => exact ih
    | block v h1 h2 h3 h4 => exact put v (.luuo h1 h2 h3 h4) ih

/-- An instruction that ends has stored nowhere else. -/
theorem Mach.Done.stores {s : State} {iw : Option Word} {m : Mach} (h : Mach.Done (.start s iw) m) {l : Loc} (hl : ¬ s.MayStore l) :
    m.st.get l = s.get l := by
  cases h with
  | flags g a hm => cases l <;> exact (hm.stores rfl).2 _ hl
  | pc a hm => cases l <;> exact (hm.stores rfl).2 _ hl
  | restore g a hm => cases l <;> exact (hm.stores rfl).2 _ hl

/-- A place not written keeps its word when those written are made free. -/
theorem State.get_scramble {l : Loc} (ls : List Loc) (h : l ∉ ls) : ∀ s : State, (s.scramble ls).get l = s.get l := by
  induction ls with
  | nil => exact fun _ => rfl
  | cons l' ls ih =>
    obtain ⟨hne, hls⟩ := not_or.1 (mt List.mem_cons.2 h)
    intro s
    refine (ih hls _).trans (Eq.trans ?_ (State.get_put_other s hne (Config.freeWord s.freeCtr)))
    cases l <;> rfl

/-- Storing in a block changes the words of the block alone. -/
theorem State.get_storeInBlock {sp : Option Space} {base : Word} {l : Loc} (ws : List (Nat × Word)) :
    ∀ {s t : State}, (∀ w ∈ ws, s.blockPlace sp base w.1 .write ≠ some l) → s.storeInBlock sp base ws = some t → t.get l = s.get l := by
  induction ws with
  | nil =>
    intro s t _ h
    obtain rfl := Option.some.inj h
    rfl
  | cons w ws ih =>
    intro s t hne h
    obtain ⟨hw, hws⟩ := List.forall_mem_cons.1 hne
    unfold State.storeInBlock at h
    split at h
    · cases h
    · next l' hl' =>
      have hcongr : ∀ k, (s.put l' w.2).blockPlace sp base k .write = s.blockPlace sp base k .write := fun k =>
        State.blockPlace_congr (State.put_cab ..) (State.put_cfg ..) sp base k .write
      refine (ih (fun u hu => ?_) h).trans (State.get_put_other s (fun he => hw (by rw [he]; exact hl')) _)
      rw [hcongr]
      exact hws u hu

/-- A place the entry `en` of a trap stores in: a word of its block. -/
def State.EntersAt (s : State) (en : TrapEntry) (l : Loc) : Prop :=
  ∃ w ∈ en.words, match en.base with
    | .table t => ∃ tbl, l = .cell ((s.tableBase (t.getD tbl)).toNat + w.number)
    | .block b => ∃ base, s.blockPlace b.space base w.number .write = some l

/-- A step stores where its instruction may and where an entry of TRAP_LAYOUT does, and leaves every other place alone. -/
theorem get_of_step {s t : State} (h : step s = .next t) {l : Loc} (hl : ¬ s.MayStore l)
    (hen : ∀ en, hasEntry s.cfg en → ¬ s.EntersAt en l) : t.get l = s.get l := by
  rcases step_cases h with ⟨iw, m, hm, rfl⟩ | ⟨iw, m, en, tbl, d, s', a, hm, he, hs', rfl⟩
  · exact hm.stores hl
  · obtain ⟨hlog, hget⟩ := hm.stores rfl
    have hr : s.SameRegs (m.st.scramble m.log) := hm.sameRegs.trans (State.scramble_frame m.log m.st).1
    have hcfg : (m.st.scramble m.log).cfg = s.cfg := by rw [hr.regs]
    have hcab : (m.st.scramble m.log).cab = s.cab := by rw [hr.regs]
    have htab : (m.st.scramble m.log).tableBase = s.tableBase := by
      funext x
      rw [hr.regs]
      cases x <;> rfl
    have hplace : ∀ u ∈ (m.st.scramble m.log).trapWords d en.words, (m.st.scramble m.log).blockPlace
        ((m.st.scramble m.log).blockBase en.base tbl).1 ((m.st.scramble m.log).blockBase en.base tbl).2 u.1 .write ≠ some l := by
      intro u hu heq
      obtain ⟨w, hw, rfl⟩ := List.mem_map.1 hu
      refine hen en (hcfg ▸ he) ⟨w, hw, ?_⟩
      rw [State.blockPlace_congr hcab hcfg] at heq
      cases hb : en.base with
      | table t' =>
        rw [hb, State.blockBase, htab] at heq
        exact ⟨tbl, (Option.some.inj heq).symm⟩
      | block b =>
        rw [hb] at heq
        exact ⟨_, heq⟩
    calc (s'.changeContext a).get l = s'.get l := by cases l <;> rfl
      _ = (m.st.scramble m.log).get l := State.get_storeInBlock _ hplace hs'
      _ = m.st.get l := State.get_scramble _ (fun hin => hl (hlog l hin)) _
      _ = s.get l := hget l hl

/-- A word of a block is an AC of the current block or a physical word. -/
theorem State.blockPlace_ac {s : State} {sp : Option Space} {base : Word} {k : Nat} {acc : Access} {b : BlockNum} {n : AcNum}
    (h : s.blockPlace sp base k acc = some (.ac b n)) : b = s.cab := by
  unfold State.blockPlace at h
  split at h
  · cases h
  · dsimp only at h
    split at h
    · cases h
    · split at h
      · cases h; rfl
      · split at h
        · cases h
        · obtain ⟨p, -, hp⟩ := Option.map_eq_some_iff.1 h
          cases hp

/-- A physical word of a block in a space is one that the space maps. -/
theorem State.blockPlace_cell {s : State} {sp : Space} {base : Word} {k p : Nat} {acc : Access}
    (h : s.blockPlace (some sp) base k acc = some (.cell p)) : ∃ a, mapLookup sp a acc s.cfg.map = some p := by
  unfold State.blockPlace at h
  dsimp only at h
  split at h
  · cases h
  · split at h
    · cases h
    · split at h
      · cases h
      · obtain ⟨p', hp', hp⟩ := Option.map_eq_some_iff.1 h
        cases hp
        exact ⟨_, hp'⟩

/-- An AC a step may store in is one of the current block, or, in exec mode, of the previous one. -/
theorem State.MayStore.ac {s : State} {b : BlockNum} {n : AcNum} (h : s.MayStore (.ac b n)) :
    b = s.cab ∨ (b = s.pab ∧ s.mode = .exec) := by
  cases h with
  | @ref e c _ hl hc =>
    rcases State.locate_ok hl with ⟨-, hb⟩ | ⟨-, -, p, -, hp⟩
    · cases c with
      | cur => exact .inl (Loc.ac.inj hb).1
      | prev => exact .inr ⟨(Loc.ac.inj hb).1, hc rfl⟩
    · cases hp
  | cab => exact .inl rfl
  | luuo _ _ _ hp => exact .inl (State.blockPlace_ac hp)

/-- No entry of a trap stores in an AC outside the current block. -/
theorem State.EntersAt.ac {s : State} {en : TrapEntry} {b : BlockNum} {n : AcNum} (h : s.EntersAt en (.ac b n)) : b = s.cab := by
  obtain ⟨w, -, hw⟩ := h
  split at hw
  · obtain ⟨_, h⟩ := hw; cases h
  · obtain ⟨_, h⟩ := hw; exact State.blockPlace_ac h

/-- An AC of a block that is not the current one, nor in exec mode the previous one, is left alone by every step. -/
theorem ac_of_step {s t : State} (h : step s = .next t) {b : BlockNum} (hb : b ≠ s.cab) (hp : b ≠ s.pab ∨ s.mode = .user) (n : AcNum) :
    t.ac b n = s.ac b n := by
  refine get_of_step (l := .ac b n) h (fun hs => ?_) fun en _ he => hb he.ac
  rcases hs.ac with hc | ⟨hc, hm⟩
  · exact hb hc
  · rcases hp with hp | hp
    · exact hp hc
    · rw [hp] at hm; cases hm

/-- Settles O9: in user mode no reference is made in previous context, so a place a step stores in is one of the user space, of an LUUO
block, or of the entry of a trap. -/
theorem stepsStayInTheirSpace : Obligations.StepsStayInTheirSpace := by
  refine ⟨fun s t hu h => ⟨fun b n hb => ac_of_step h hb (.inr hu) n, fun hblk p hp => ?words⟩,
    fun s t h b n hb hp => ac_of_step h hb hp n⟩
  case words =>
    by_contra hno
    simp only [not_or] at hno
    obtain ⟨hcell, hluuo, hmap, hpoint⟩ := hno
    refine hp (get_of_step (l := .cell p) h (fun hs => ?_) fun en hen he => ?_)
    · cases hs with
      | @ref e c _ hl hc =>
        rcases State.locate_ok hl with ⟨-, hb⟩ | ⟨-, -, q, hq, he⟩
        · cases hb
        · cases he
          cases c with
          | prev => rw [hu] at hc; cases hc rfl
          | cur =>
            have hsp : s.space .cur = .user := if_pos hu
            exact hmap ⟨e.addr.toNat, e.addr.isLt, hsp ▸ hq⟩
      | luuo h1 h2 h3 h4 => exact hluuo ⟨_, _, _, h1, h2, h3, h4⟩
    · obtain ⟨w, hw, he⟩ := he
      split at he
      · next t hb =>
        obtain ⟨tbl, hq⟩ := he
        exact hcell ⟨en, w, t, tbl, hen, hw, hb, Loc.cell.inj hq⟩
      · next b hb =>
        obtain ⟨base, hq⟩ := he
        obtain ⟨sp, hsp⟩ := Option.ne_none_iff_exists'.1 (hblk b ⟨en, hen, hb⟩)
        rw [hsp] at hq
        obtain ⟨a, ha⟩ := State.blockPlace_cell hq
        exact hpoint ⟨b, sp, a, ⟨en, hen, hb⟩, hsp, ha⟩

end Sys2Proof.Machine
end

section
/-! PROOFS. The classes of spec/47_general.md R400 and the conditional jumps (43_jumps.md R283): every meaning is the data step of a
shape, and each shape has one proof (`dataOp_imm` and its companions), of which the forms are instances. -/

namespace Sys2Proof.Machine

/-! ## From the shape of a meaning to its form -/

/-- No AC operand is spared in a form that loads AC 0 too. -/
theorem ite_spares_false {α : Type} {a : AcNum} (x y : α) : (if false = true ∧ a = 0 then x else y) = y :=
  if_neg fun h => Bool.false_ne_true h.1

/-- What a data step leaves, from what its meaning leaves at PC. -/
theorem exec_dataOp {i : AcNum → AddrFields → Instr} {op : Nat} {sh : DataShape}
    (h : ∀ a e, bodyOf runWord (i a e) = dataOp op sh a e) (a : AcNum) (e : AddrFields) (s : State) :
    exec (i a e) s = runTop (trapWord (i a e)) (dataOp op sh a e) s := by rw [exec_eq, h]

theorem ImmForm.of_body {ins outs : List AcNum} {skips : Bool} {op n : Nat} {px : PxClass} {i : AcNum → AddrFields → Instr}
    (h : ∀ a e, bodyOf runWord (i a e) = dataOp op ⟨.imm, n, ins, outs, false, skips, px⟩ a e) : ImmForm ins outs skips (op, i) := by
  intro a e s ea hea args
  rw [exec_dataOp h, dataOp_imm hea, ite_spares_false]

theorem ReadForm.of_body {ins outs : List AcNum} {spares skips : Bool} {op : Nat} {px : PxClass} {i : AcNum → AddrFields → Instr}
    (h : ∀ a e, bodyOf runWord (i a e) = dataOp op ⟨.read, 1, ins, outs, spares, skips, px⟩ a e) :
    ReadForm ins outs spares skips (op, i) := by
  intro a e s ea l hea hl args
  rw [exec_dataOp h, dataOp_read hea hl]

theorem Read2Form.of_body {ins outs : List AcNum} {op : Nat} {px : PxClass} {i : AcNum → AddrFields → Instr}
    (h : ∀ a e, bodyOf runWord (i a e) = dataOp op ⟨.read, 2, ins, outs, false, false, px⟩ a e) : Read2Form ins outs (op, i) := by
  intro a e s ea l1 l2 hea h1
  refine ⟨fun ht => ?_, fun hm h2 => ?_⟩
  · rw [exec_dataOp h, dataOp_read2_refused hea ht h1]
  · rw [exec_dataOp h, dataOp_read2 hea hm h1 h2, ite_spares_false]
    rfl

theorem WriteForm.of_body {ins : List AcNum} {op : Nat} {px : PxClass} {i : AcNum → AddrFields → Instr}
    (h : ∀ a e, bodyOf runWord (i a e) = dataOp op ⟨.write, 1, ins, [], false, false, px⟩ a e) : WriteForm ins (op, i) := by
  intro a e s ea l hea hl args
  rw [exec_dataOp h, dataOp_write hea hl, ite_spares_false]
  rfl

theorem Write2Form.of_body {ins : List AcNum} {op : Nat} {px : PxClass} {i : AcNum → AddrFields → Instr}
    (h : ∀ a e, bodyOf runWord (i a e) = dataOp op ⟨.write, 2, ins, [], false, false, px⟩ a e) : Write2Form ins (op, i) := by
  intro a e s ea l1 l2 hea h1
  refine ⟨fun ht => ?_, fun hm h2 => ?_⟩
  · rw [exec_dataOp h, dataOp_write2_refused hea ht h1]
  · rw [exec_dataOp h, dataOp_write2 hea hm h1 h2, ite_spares_false]
    rfl

theorem BothForm.of_body {ins outs : List AcNum} {spares skips : Bool} {op : Nat} {px : PxClass} {i : AcNum → AddrFields → Instr}
    (h : ∀ a e, bodyOf runWord (i a e) = dataOp op ⟨.both, 1, ins, outs, spares, skips, px⟩ a e) :
    BothForm ins outs spares skips (op, i) := by
  intro a e s ea l hea hl args s1
  rw [exec_dataOp h, dataOp_both hea hl]

theorem JumpForm.of_body {outs : List AcNum} {op : Nat} {i : AcNum → AddrFields → Instr}
    (h : ∀ a e, bodyOf runWord (i a e) = jumpOp op outs a e) : JumpForm outs (op, i) := by
  intro a e s ea hea
  rw [exec_eq, h, jumpOp_top hea]

/-! ## The classes

The meaning of each instruction listed is, by definition, the data step of the shape its form asks for. -/

/-- Settles O23: six shapes, the two-word ones among them. -/
theorem moveClassForms : Obligations.MoveClassForms := by
  refine ⟨?dmovn, ?dmovnm, ?self, ?basic, ?immediate, ?memory⟩ <;> simp only [List.forall_mem_cons] <;> and_intros
  any_goals exact List.forall_mem_nil _
  all_goals exact .of_body fun _ _ => rfl

/-- Settles O24: the shapes differ in the ACs they read and write. -/
theorem arithmeticAndShiftForms : Obligations.ArithmeticAndShiftForms := by
  refine ⟨⟨?double, ?dmul, ?ddiv, ?basic, ?immediate, ?memory, ?both, ?pair, ?pairImmediate, ?pairBoth, ?div, ?divi, ?divm, ?divb⟩,
    ?shift, ?combined⟩ <;> simp only [List.forall_mem_cons] <;> and_intros
  any_goals exact List.forall_mem_nil _
  all_goals exact .of_body fun _ _ => rfl

/-- Settles O25: the shapes differ in the words and ACs they read and write. -/
theorem floatingForms : Obligations.FloatingForms := by
  refine ⟨?double, ?fix, ?ufa, ?both, ?immediate, ?basic, ?memory⟩ <;> simp only [List.forall_mem_cons] <;> and_intros
  any_goals exact List.forall_mem_nil _
  all_goals exact .of_body fun _ _ => rfl

/-- Settles O26: one shape for each suffix. -/
theorem booleanForms : Obligations.BooleanForms := by
  refine ⟨?basic, ?immediate, ?memory, ?both⟩ <;> simp only [List.forall_mem_cons] <;> and_intros
  any_goals exact List.forall_mem_nil _
  all_goals exact .of_body fun _ _ => rfl

/-- Settles O27: one shape for each suffix. -/
theorem halfwordForms : Obligations.HalfwordForms := by
  refine ⟨?basic, ?memory, ?self, ?immediate⟩ <;> simp only [List.forall_mem_cons] <;> and_intros
  any_goals exact List.forall_mem_nil _
  all_goals exact .of_body fun _ _ => rfl

/-- Settles O28: a test is immediate or reads E, and skips. -/
theorem testForms : Obligations.TestForms := by
  refine ⟨?immediate, ?basic⟩ <;> simp only [List.forall_mem_cons] <;> and_intros
  any_goals exact List.forall_mem_nil _
  all_goals exact .of_body fun _ _ => rfl

/-- Settles O29: one shape for each class. -/
theorem skipForms : Obligations.SkipForms := by
  refine ⟨?cai, ?cam, ?skip, ?aosSos⟩ <;> simp only [List.forall_mem_cons] <;> and_intros
  any_goals exact List.forall_mem_nil _
  all_goals exact .of_body fun _ _ => rfl

/-- JFCL at PC: its operands are the flags and the AC field (43_jumps.md R283). -/
theorem flagJumpOp_top {op : Nat} {a : AcNum} {e : AddrFields} {s : State} {ea : EA} {iw : Word} (hea : s.eaOf e = .ok ea) :
    let args := [s.flags.setWidth 36, a.setWidth 36]
    runTop iw (flagJumpOp op a e) s =
      .next (s.dataEnd op args (if Config.dataCond op args then ea.addr else s.pcPlus 1)) := by
  intro args
  have hb : flagJumpOp op a e s.top (.start s (some iw)) = .ok (if Config.dataCond op args then
      ((Mach.start s (some iw)).dataFlags op args).setPc ea.addr else ((Mach.start s (some iw)).dataFlags op args).advance 1) := by
    simp only [flagJumpOp, instrEa_ok hea, Run.ok_bind]
    rfl
  refine (runTop_ok hb).trans (congrArg _ ?_)
  by_cases hc : Config.dataCond op args = true
  · rw [if_pos hc, if_pos hc]
    rfl
  · rw [if_neg hc, if_neg hc]
    rfl

/-- Settles O30: each of these jumps is `jumpOp` with the ACs it writes; JFCL has a step of its own. -/
theorem conditionalJumpForms : Obligations.ConditionalJumpForms := by
  refine ⟨?jffo, ?aojSoj, ?jump, fun _ _ _ _ hea => (exec_eq ..).trans (flagJumpOp_top hea)⟩ <;> simp only [List.forall_mem_cons] <;> and_intros
  any_goals exact List.forall_mem_nil _
  all_goals exact .of_body fun _ _ => rfl

end Sys2Proof.Machine
end

section
/-! PROOFS. The decoder at work (spec/30_encoding.md, 47_general.md section 1): written words, the step, and the PXCT values. -/

namespace Sys2Proof.Machine

/-- Settles O3: the decoder evaluated on each word. -/
theorem decodesWrittenWords : Obligations.DecodesWrittenWords := by
  and_intros <;> rfl

/-- A trap in the instruction a word decodes to reports the word itself (60_exceptions.md R480). -/
theorem trapWord_decode (w : Word) : trapWord (decode w) = w := by
  obtain ⟨he, -, hx⟩ := encode_decode w
  rw [trapWord, hx]
  exact he

/-- Settles O4: what XCT executes is what the decoder gives (`executeWith_eq`), and a trap reports the word. -/
theorem stepRunsDecoded : Obligations.StepRunsDecoded := by
  refine ⟨fun s w hw => ?_, fun o w h1 h2 => standardWord_default h1 h2 w, fun s pf hf ht => ?_⟩
  · rw [step, hw]
    dsimp only
    rw [executeWith_eq, exec_eq, trapWord_decode]
  · rw [step, hf]
    exact takeTrap_pageFail ht

/-- A PXCT of MOVSLJ or XBLT is let through where E1 and D1 are clear and one of E2 and D2 is set. -/
theorem guardExt_listed (p : Px) (sec : Sec) :
    Frame.guardExt ⟨sec, some p⟩ true = .ok () ↔ (!p.e1 && !p.d1 && (p.e2 || p.d2)) = true := by
  unfold Frame.guardExt
  dsimp only
  rw [if_neg (by decide)]
  split
  · next h => exact iff_of_true rfl h
  · next h => exact iff_of_false (fun hr => nomatch hr) h

/-- Settles O51: the table of R444 read off the sixteen control fields. -/
theorem pxctLegalValues : Obligations.PxctLegalValues := by
  refine ⟨by decide, by decide, by decide, by decide, by decide, fun n sec => ?_⟩
  rw [guardExt_listed]
  revert n
  decide

end Sys2Proof.Machine
end

section
/-! PROOFS. References and memory (spec/20_memory.md): AC references, the step of an address, the fetch, a write read back. -/

namespace Sys2Proof.Machine

/-- The number of the AC an AC reference denotes is its in-section part (20_memory.md R66). -/
theorem acNumOf_toNat {e : EA} (h : isAcRef e = true) : (acNumOf e).toNat = (offOf e.addr).toNat := by
  have hoff : (offOf e.addr).toNat ≤ 0o17 := by
    unfold isAcRef at h
    exact BitVec.le_def.1 (decide_eq_true_iff.1 (Bool.and_eq_true_iff.1 h).1)
  simp only [offOf, BitVec.extractLsb'_toNat, Nat.shiftRight_zero, acNumOf, BitVec.toNat_setWidth] at hoff ⊢
  omega

/-- Settles O10: an AC reference is looked up before the section and Map are asked. -/
theorem acReferences : Obligations.AcReferences := by
  refine ⟨fun a f => ?_, fun e h => acNumOf_toNat h, fun s e c acc h => ?_, fun s e c acc b n h hl => ?_⟩
  · have hle : offOf a ≤ 0o17 ↔ (offOf a).toNat ≤ 0o17 := BitVec.le_def
    cases f
    · simp only [isAcRef_loc, decide_eq_true_iff, hle, true_and, reduceCtorEq, false_and, or_false]
    · simp only [isAcRef_glob, Bool.and_eq_true, beq_iff_eq, decide_eq_true_iff, hle, true_and, reduceCtorEq, false_and, false_or,
        and_comm]
  · rw [State.locate_ac s h]
    cases c <;> rfl
  · rcases State.locate_ok hl with ⟨hac, -⟩ | ⟨-, -, p, -, hp⟩
    · rw [h] at hac; cases hac
    · cases hp

/-- Settles O11: Inc of a local address is put together from its parts, Inc of a global one is a sum. -/
theorem increment : Obligations.Increment := by
  refine ⟨fun s n => ?_, fun a ha => ?_, fun e => ?_, fun s n f => ?_⟩
  · simp only [inc, secOf_mkAddr, offOf_mkAddr]
  · have hne : a ≠ 0o7777777777 := fun he => by
      rw [he] at ha
      exact absurd ha (by decide)
    simp only [inc, if_neg hne, EA.mk.injEq, and_true]
    refine BitVec.eq_of_toNat_eq ?_
    rw [BitVec.toNat_add, BitVec.toNat_ofNat]
    rfl
  · unfold inc
    split <;> simp_all
  · simp only [incLocal, secOf_mkAddr, offOf_mkAddr]

/-- The AC a local reference denotes, by the in-section part of its address (20_memory.md R66). -/
theorem acNumOf_loc (a : Addr) : acNumOf ⟨a, .loc⟩ = (offOf a).setWidth 4 := by
  refine BitVec.eq_of_toNat_eq ?_
  simp only [acNumOf, offOf, BitVec.toNat_setWidth, BitVec.extractLsb'_toNat, Nat.shiftRight_zero]
  omega

/-- Settles O12: the fetch is a local reference to PC in current context, an AC or a word the current space maps. -/
theorem fetchIsLocal : Obligations.FetchIsLocal := by
  refine ⟨fun s h => ?_, fun s p hoff hsec hmap => ?_⟩
  · have hac : isAcRef ⟨s.pc, .loc⟩ = true := by simpa [BitVec.le_def] using h
    rw [State.fetch, State.locate_ac s hac, acNumOf_loc]
    rfl
  · have hac : isAcRef ⟨s.pc, .loc⟩ = false := by simpa [BitVec.lt_def] using hoff
    have hl : s.locate ⟨s.pc, .loc⟩ .cur .fetch = .ok (.cell p) := by
      simp [State.locate, hac, Nat.not_le.2 hsec, hmap]
    rw [State.fetch, hl]
    rfl

/-- A read gives the word in the place its reference stands for (20_memory.md R76). -/
theorem State.memRead_ok {s : State} {e : EA} {c : Ctx} {l : Loc} (h : s.locate e c .read = .ok l) :
    s.memRead e c = .ok (s.get l) := by rw [State.memRead, h]

/-- A write that is admitted stores in the place its reference stands for (20_memory.md R77). -/
theorem State.memWrite_eq_ok {s t : State} {e : EA} {c : Ctx} {v : Word} :
    s.memWrite e c v = .ok t ↔ ∃ l, s.locate e c .write = .ok l ∧ t = s.put l v := by
  unfold State.memWrite
  cases s.locate e c .write <;> simp [eq_comm]

/-- Settles O14: a write stores in one place, which the references of a later read are compared with. -/
theorem writeThenRead : Obligations.WriteThenRead := by
  intro s t e c v hwf hw
  obtain ⟨l, hl, rfl⟩ := State.memWrite_eq_ok.1 hw
  refine ⟨fun l' ⟨hr, hw'⟩ => ?_, fun e' c' l0 l' hl0 hr hne => ?_⟩
  · obtain rfl : l = l' := Except.ok.inj (hl.symm.trans hw')
    rw [State.memRead_ok (l := l) (by simpa using hr), State.get_put_same hwf]
  · obtain rfl : l = l0 := Except.ok.inj (hl.symm.trans hl0)
    rw [State.memRead_ok hr, State.memRead_ok (l := l') (by simpa using hr), State.get_put_other s hne]

end Sys2Proof.Machine
end

section
/-! PROOFS. The EA-calc (spec/40_ea_calc.md): one address word, chains of them, section zero. -/

namespace Sys2Proof.Machine

/-! ## One address word -/

/-- A sum of two in-section parts, modulo 2^18. -/
theorem half_add (x y : Half) : x + y = BitVec.ofNat 18 ((x.toNat + y.toNat) % 2 ^ 18) :=
  BitVec.eq_of_toNat_eq (by simp [BitVec.toNat_add])

/-- A sum of two addresses, modulo 2^30. -/
theorem addr_add (x y : Addr) : x + y = BitVec.ofNat 30 ((x.toNat + y.toNat) % 2 ^ 30) :=
  BitVec.eq_of_toNat_eq (by simp [BitVec.toNat_add])

/-- An 18-bit Y extended from bit 18: its section is 0 or 7777 (40_ea_calc.md R156). -/
theorem sext30_toNat (y : Half) : (sext30 y).toNat = if y.toNat < 0o400000 then y.toNat else 0o7777 * 2 ^ 18 + y.toNat := by
  have hy := y.isLt
  rw [sext30, BitVec.toNat_signExtend, BitVec.toNat_setWidth, BitVec.msb_eq_decide]
  by_cases h : y.toNat < 0o400000
  · simp only [if_pos h]
    rw [if_neg (by simpa using h)]
    omega
  · simp only [if_neg h]
    rw [if_pos (by simpa using h)]
    omega

/-- What makes an index local (40_ea_calc.md R153). -/
theorem localIndex_iff (s : Sec) (xr : Word) : localIndex s xr = true ↔ s = 0 ∨ bitAt xr 0 = true ∨ secField xr = 0 := by
  simp [localIndex, or_assoc]

/-- Settles O15: a word that is not indirect is one iteration, whose branch its index selects. -/
theorem eaCalcIteration : Obligations.EaCalcIteration := by
  intro s sec c
  refine ⟨fun y => ?_, fun y => ?_, fun x y hx hloc => ?_, fun x y hx hglob => ?_, fun x y hx => ?_⟩
  all_goals rw [State.eaCalc_direct s rfl]
  · rfl
  · rfl
  · simp only [eaIter, AddrWord.idx, if_neg hx, if_pos ((localIndex_iff ..).2 hloc), half_add]
  · simp only [eaIter, AddrWord.idx, if_neg hx, if_neg (mt (localIndex_iff ..).1 hglob), addr_add, sext30_toNat]
  · simp only [eaIter, AddrWord.idx, if_neg hx, addr_add]

/-! ## Chains of address words -/

/-- One link of a chain: the indirect word continues the calculation (40_ea_calc.md R159, R160). -/
theorem eaLoop_link {s : State} {c : Ctx} {aw aw' : AddrWord} {sec : Sec} {w : Word} (hi : aw.ind = true)
    (hr : s.memRead (eaIter aw sec (s.xr aw.idx c)) c = .ok w)
    (hc : classify w (secOf (eaIter aw sec (s.xr aw.idx c)).addr) = some aw') (n : Nat) (lw : Word) :
    eaLoop s c (n + 1) aw sec lw = eaLoop s c n aw' (secOf (eaIter aw sec (s.xr aw.idx c)).addr) w := by
  rw [eaLoop]
  simp only [hi, if_true, hr, hc]

/-- An indirect word that cannot be read ends the calculation in the page fail of its reference (R159). -/
theorem eaLoop_unread {s : State} {c : Ctx} {aw : AddrWord} {sec : Sec} {pf : PageFail} (hi : aw.ind = true)
    (hr : s.memRead (eaIter aw sec (s.xr aw.idx c)) c = .error pf) (n : Nat) (lw : Word) :
    eaLoop s c (n + 1) aw sec lw = .error (.pageFail pf) := by
  rw [eaLoop]
  simp only [hi, if_true, hr]

/-- So does an illegal one, in a page fail of its own (R158). -/
theorem eaLoop_illegal {s : State} {c : Ctx} {aw : AddrWord} {sec : Sec} {w : Word} (hi : aw.ind = true)
    (hr : s.memRead (eaIter aw sec (s.xr aw.idx c)) c = .ok w)
    (hc : classify w (secOf (eaIter aw sec (s.xr aw.idx c)).addr) = none) (n : Nat) (lw : Word) :
    eaLoop s c (n + 1) aw sec lw = .error (.pageFail ⟨eaIter aw sec (s.xr aw.idx c), c, .illegalIndirect⟩) := by
  rw [eaLoop]
  simp only [hi, if_true, hr, hc]

/-- The last link: a word that is not indirect ends the calculation. -/
theorem eaLoop_end {s : State} {c : Ctx} {aw : AddrWord} (hi : aw.ind = false) (sec : Sec) (n : Nat) (lw : Word) :
    eaLoop s c (n + 1) aw sec lw =
      .ok (eaIter aw sec (s.xr aw.idx c), if aw.idx = 0 then lw else s.xr aw.idx c) := by
  rw [eaLoop]
  simp only [hi, Bool.false_eq_true, if_false]

/-- A calculation that ends within `n` words ends with the same address within one more, whatever word came before it. -/
theorem eaLoop_more {s : State} {c : Ctx} (n : Nat) : ∀ (aw : AddrWord) (sec : Sec) (lw lw' : Word) (r : EA × Word),
    eaLoop s c n aw sec lw = .ok r → ∃ w, eaLoop s c (n + 1) aw sec lw' = .ok (r.1, w) := by
  induction n with
  | zero => intro _ _ _ _ _ h; cases h
  | succ n ih =>
    intro aw sec lw lw' r h
    by_cases hi : aw.ind = true
    · cases hr : s.memRead (eaIter aw sec (s.xr aw.idx c)) c with
      | error pf => rw [eaLoop_unread hi hr] at h; cases h
      | ok w =>
        cases hc : classify w (secOf (eaIter aw sec (s.xr aw.idx c)).addr) with
        | none => rw [eaLoop_illegal hi hr hc] at h; cases h
        | some aw' =>
          rw [eaLoop_link hi hr hc] at h ⊢
          exact ih _ _ _ _ _ h
    · have hi : aw.ind = false := by simpa using hi
      rw [eaLoop_end hi] at h ⊢
      cases h
      exact ⟨_, rfl⟩

/-- A result of the EA-calc is one of the loop, and its address. -/
theorem State.eaCalc_eq_ok {s : State} {aw : AddrWord} {sec : Sec} {c : Ctx} {ea : EA} :
    s.eaCalc aw sec c = .ok ea ↔ ∃ w, eaLoop s c eaFuel aw sec 0 = .ok (ea, w) := by
  unfold State.eaCalc
  split
  · next r h =>
    rw [h]
    exact ⟨fun he => ⟨r.2, by rw [← Except.ok.inj he]⟩, fun ⟨w, hw⟩ => by rw [Except.ok.inj hw]⟩
  · next h =>
    rw [h]
    exact ⟨fun he => (nomatch he), fun ⟨_, hw⟩ => (nomatch hw)⟩

/-- The rest of a chain gives the result of the whole. -/
theorem State.eaCalc_of_link {s : State} {c : Ctx} {aw aw' : AddrWord} {sec : Sec} {w : Word} (hi : aw.ind = true)
    (hr : s.memRead (eaIter aw sec (s.xr aw.idx c)) c = .ok w)
    (hc : classify w (secOf (eaIter aw sec (s.xr aw.idx c)).addr) = some aw') {ea : EA} (h : s.eaCalc aw sec c = .ok ea) :
    s.eaCalc aw' (secOf (eaIter aw sec (s.xr aw.idx c)).addr) c = .ok ea := by
  obtain ⟨w', hl⟩ := State.eaCalc_eq_ok.1 h
  have hf : eaFuel = 2 ^ 32 - 1 + 1 := rfl
  rw [hf, eaLoop_link hi hr hc] at hl
  obtain ⟨w'', hm⟩ := eaLoop_more _ _ _ _ 0 _ hl
  exact State.eaCalc_eq_ok.2 ⟨w'', hm⟩

/-- A word that ends the calculation ends it for the indirect word that led to it. -/
theorem State.eaCalc_link_direct {s : State} {c : Ctx} {aw aw' : AddrWord} {sec : Sec} {w : Word} (hi : aw.ind = true)
    (hr : s.memRead (eaIter aw sec (s.xr aw.idx c)) c = .ok w)
    (hc : classify w (secOf (eaIter aw sec (s.xr aw.idx c)).addr) = some aw') (hi' : aw'.ind = false) :
    s.eaCalc aw sec c = s.eaCalc aw' (secOf (eaIter aw sec (s.xr aw.idx c)).addr) c := by
  have hf : eaFuel = 2 ^ 32 - 2 + 1 + 1 := rfl
  rw [State.eaCalc_direct s hi']
  exact State.eaCalc_eq_ok.2 ⟨_, by rw [hf, eaLoop_link hi hr hc, eaLoop_end hi']⟩

/-- In section zero every word is an IFIW (40_ea_calc.md R152). -/
theorem classify_zero (w : Word) : classify w 0 = some (.ifiw (fieldsOf w)) := if_pos rfl

/-- A word in section zero that is its own address never ends the calculation (40_ea_calc.md R168; D22, log 37). -/
theorem eaLoop_self {s : State} {c : Ctx} {y : Half} {w : Word} (hf : fieldsOf w = ⟨true, 0, y⟩)
    (hr : s.memRead ⟨mkAddr 0 y, .loc⟩ c = .ok w) (n : Nat) :
    ∀ lw, eaLoop s c n (.ifiw ⟨true, 0, y⟩) 0 lw = .error .endless := by
  have hsec : secOf (mkAddr 0 y) = 0 := secOf_mkAddr 0 y
  have hc : classify w (secOf (mkAddr 0 y)) = some (.ifiw ⟨true, 0, y⟩) := by rw [hsec, classify_zero, hf]
  induction n with
  | zero => exact fun _ => rfl
  | succ n ih =>
    intro lw
    refine (eaLoop_link (aw := .ifiw ⟨true, 0, y⟩) rfl hr hc n lw).trans ?_
    exact (congrArg (fun x => eaLoop s c n _ x w) hsec).trans (ih w)

/-- Settles O16: the loop takes one link at a time, and a chain that comes back to its word outlasts any bound. -/
theorem indirectWords : Obligations.IndirectWords := by
  refine ⟨fun s sec c aw aw' w hi hr hc => ⟨State.eaCalc_link_direct hi hr hc, fun ea => State.eaCalc_of_link hi hr hc⟩,
    fun s a y w hz hf hr => ?_⟩
  have hea : s.eaOf ⟨true, 0, y⟩ = .error .endless := by
    rw [State.eaOf, hz, State.eaCalc, eaLoop_self hf hr]
  refine ⟨hea, exec_fault ?_⟩
  have hi : ∀ iw, instrEa .general ⟨true, 0, y⟩ s.top (.start s iw) = .error (.fault .stuck) := fun iw => by
    rw [instrEa_top, Mach.start_st, show s.eaCalc _ s.pcSec .cur = _ from hea]
    rfl
  simp only [bodyOf, bodyMove, hi, Run.error_bind]

/-! ## Section zero -/

/-- An iteration in section zero gives an address there, local, whatever the index (40_ea_calc.md R153, R161). -/
theorem eaIter_zero (e : AddrFields) (xr : Word) :
    secOf (eaIter (.ifiw e) 0 xr).addr = 0 ∧ (eaIter (.ifiw e) 0 xr).flag = .loc := by
  have hloc : localIndex 0 xr = true := (localIndex_iff ..).2 (.inl rfl)
  simp only [eaIter, hloc, if_true]
  split <;> exact ⟨secOf_mkAddr .., rfl⟩

theorem eaLoop_zero {s : State} {c : Ctx} (n : Nat) : ∀ (e : AddrFields) (lw : Word) (r : EA × Word),
    eaLoop s c n (.ifiw e) 0 lw = .ok r → secOf r.1.addr = 0 ∧ r.1.flag = .loc := by
  induction n with
  | zero => intro _ _ _ h; cases h
  | succ n ih =>
    intro e lw r h
    obtain ⟨hsec, hloc⟩ := eaIter_zero e (s.xr (AddrWord.ifiw e).idx c)
    by_cases hi : (AddrWord.ifiw e).ind = true
    · cases hr : s.memRead (eaIter (.ifiw e) 0 (s.xr (AddrWord.ifiw e).idx c)) c with
      | error pf => rw [eaLoop_unread hi hr] at h; cases h
      | ok w =>
        rw [eaLoop_link hi hr (by rw [hsec, classify_zero]), hsec] at h
        exact ih _ _ _ h
    · rw [eaLoop_end (by simpa using hi)] at h
      cases h
      exact ⟨hsec, hloc⟩

/-- Settles O18: each word of the chain is an IFIW in section zero, by induction on the words. -/
theorem sectionZeroAbsorbs : Obligations.SectionZeroAbsorbs := by
  intro s e c ea h
  obtain ⟨w, hl⟩ := State.eaCalc_eq_ok.1 h
  exact eaLoop_zero eaFuel e 0 (ea, w) hl

end Sys2Proof.Machine
end

section
/-! PROOFS. Byte pointers and stack pointers as words (spec/30_encoding.md section 4, 41_byte.md section 2, 44_stack.md section 1). -/

namespace Sys2Proof.Machine

/-! ## The byte of a word -/

/-- The mask of `sz` low bits. -/
theorem getLsbD_mask {sz i : Nat} (hi : i < 36) : (BitVec.ofNat 36 (2 ^ sz - 1)).getLsbD i = decide (i < sz) := by
  rw [BitVec.getLsbD_ofNat, Nat.testBit_two_pow_sub_one]
  simp [hi]

/-- Settles O31: the byte is a shift and a mask, the deposit the two masks put together. -/
theorem byteField : Obligations.ByteField := by
  intro p sz w b hp
  refine ⟨fun i hi => ?_, fun i hi => ?_⟩
  · rw [byteOf, if_pos hp, BitVec.getLsbD_and, getLsbD_mask hi, BitVec.getLsbD_ushiftRight, Bool.and_comm]
  · rw [depositByte, if_pos hp]
    simp only [BitVec.getLsbD_or, BitVec.getLsbD_and, BitVec.getLsbD_not, BitVec.getLsbD_shiftLeft, hi, decide_true, Bool.true_and]
    rw [getLsbD_mask (show i - p < 36 by omega)]
    by_cases h1 : i < p
    · simp [h1, Nat.not_le.2 h1]
    · by_cases h2 : i < p + sz
      · simp [h1, Nat.le_of_not_lt h1, h2, show i - p < sz by omega]
      · simp [h1, h2, show ¬ i - p < sz by omega]

/-! ## Stepping a byte pointer -/

/-- A word is its halves. -/
theorem join_halves (w : Word) : join (lh w) (rh w) = w := by
  refine BitVec.eq_of_getLsbD_eq fun i hi => ?_
  simp only [join, lh, rh, BitVec.getLsbD_append, BitVec.getLsbD_extractLsb']
  by_cases h : i < 18
  · simp [h]
  · simp [h, show i - 18 < 18 by omega, show 18 + (i - 18) = i by omega]

/-- The P field of a pointer put together from P and an address. -/
theorem bpP_append (p : BitVec 6) (a : Addr) : bpP (p ++ a) = p := BitVec.extractLsb'_append_eq_left

/-- The address of a pointer put together from P and an address. -/
theorem addrOf_append (p : BitVec 6) (a : Addr) : addrOf (p ++ a) = a := BitVec.extractLsb'_append_eq_right

/-- A step inside the word. -/
theorem stepPosition_inside {p s : Nat} (h : s ≤ p) : stepPosition p s = (BitVec.ofNat 6 (p - s), false) := if_pos h

/-- A step to the next word. -/
theorem stepPosition_next {p s : Nat} (h : p < s) (hs : s ≤ 36) : stepPosition p s = (BitVec.ofNat 6 (36 - s), true) := by
  rw [stepPosition, if_neg (Nat.not_le.2 h), if_pos hs]

/-- The default table has a code for the pair that each of its pairs steps to (30_encoding.md R109, 41_byte.md R211). -/
theorem owgbpStandard_steps : ∀ i : Fin owgbpStandard.length, ∃ code : BitVec 6,
    owgbpEncode owgbpStandard (stepPosition (owgbpStandard[i]).1 (owgbpStandard[i]).2).1.toNat (owgbpStandard[i]).2 = some code ∧
      owgbpDecode owgbpStandard code.toNat = some (if (owgbpStandard[i]).2 ≤ (owgbpStandard[i]).1 then
        (owgbpStandard[i]).1 - (owgbpStandard[i]).2 else 36 - (owgbpStandard[i]).2, (owgbpStandard[i]).2) ∧
      (stepPosition (owgbpStandard[i]).1 (owgbpStandard[i]).2).2 = !decide ((owgbpStandard[i]).2 ≤ (owgbpStandard[i]).1) := by
  decide

/-- P and S of a one-word global pointer are those its code has in OWGBP_TABLE (30_encoding.md R109). -/
theorem bpFields_oneGlobal {cfg : Config} {w : Word} {ps : Nat × Nat} (h : owgbpDecode cfg.owgbp (bpP w).toNat = some ps) :
    bpFields cfg .oneGlobal w = .ok ps := by simp only [bpFields, h]

/-- The default of BYTE_INCREMENT is the rule of R211. -/
theorem incBP_standard {cfg : Config} {k : BpKind} {w1 w2 : Word} (hb : cfg.byteIncrement = .standard) :
    incBP cfg k w1 w2 = incStandard cfg k w1 w2 := by rw [incBP, hb]

/-- Settles O34: the step of P decides between the two; a one-word global pointer is put together again from its new code. -/
theorem pointerIncrement : Obligations.PointerIncrement := by
  refine ⟨fun cfg w1 w2 hb h => ?inside, fun cfg w1 w2 hb h hs => ?next, fun cfg w1 w2 p sz hb htab h37 hdec => ?global⟩
  case inside =>
    simp [incBP_standard hb, incStandard, bpFields, stepPosition_inside h, join_halves]
  case next =>
    simp [incBP_standard hb, incStandard, bpFields, stepPosition_next h hs]
  case global =>
    rw [htab] at hdec
    obtain ⟨hi, hps⟩ := List.getElem?_eq_some_iff.1 hdec
    obtain ⟨code, henc, hcode, hstep⟩ := owgbpStandard_steps ⟨(bpP w1).toNat - 0o45, hi⟩
    simp only [Fin.getElem_fin, hps] at henc hcode hstep
    refine ⟨code ++ (addrOf w1 + if sz ≤ p then 0 else 1), ?_, ?_, addrOf_append _ _⟩
    · have hf : bpFields cfg .oneGlobal w1 = .ok (p, sz) := bpFields_oneGlobal (by rw [htab, hdec])
      rw [incBP_standard hb, incStandard, hf, Run.ok_bind]
      dsimp only
      rw [htab, henc, hstep]
      by_cases hle : sz ≤ p <;> simp [hle]
    · rw [bpP_append, htab]
      exact hcode

/-! ## Stack pointers -/

/-- Settles O39: the format is a test of three fields, and each format has its own address and its own steps. -/
theorem stackPointers : Obligations.StackPointers := by
  refine ⟨fun ps sp => ?_, fun _ _ => ⟨rfl, rfl⟩, fun _ => ⟨rfl, rfl⟩, fun _ => rfl, fun _ => rfl⟩
  simp [spGlobal, and_assoc]

end Sys2Proof.Machine
end

section
/-! PROOFS. The meanings of spec/47_general.md, 43_jumps.md and 44_stack.md in any frame: what each leaves where its E and its references
exist. The instruction at PC and the one a PXCT executes are instances. -/

namespace Sys2Proof.Machine

/-! ## Stores and exchanges (47_general.md R396, R398, R401, R405, R406) -/

section Stores

variable {f : Frame} {m : Mach} {e : AddrFields} {ea : EA}

theorem bodyMove_ok {l : Loc} (hea : instrEa .general e f m = .ok ea) (hl : m.st.locate ea f.dataCtx .read = .ok l) (a : AcNum) :
    bodyMove a e f m = .ok ((m.setX a (m.st.get l)).advance 1) := by
  simp only [bodyMove, hea, Run.ok_bind, Mach.read_ok hl, Run.pure_eq]

theorem bodyMovem_ok {l : Loc} (hea : instrEa .general e f m = .ok ea) (hl : m.st.locate ea f.dataCtx .write = .ok l) (a : AcNum) :
    bodyMovem a e f m = .ok ((m.put l (m.x a)).advance 1) := by
  simp only [bodyMovem, hea, Run.ok_bind, Mach.write_ok hl, Run.pure_eq]

theorem bodySetzb_ok {l : Loc} (hea : instrEa .general e f m = .ok ea) (hl : m.st.locate ea f.dataCtx .write = .ok l) (a : AcNum) :
    bodySetzb a e f m = .ok (((m.put l 0).setX a 0).advance 1) := by
  simp only [bodySetzb, hea, Run.ok_bind, Mach.write_ok hl, Run.pure_eq]

theorem bodyExch_ok {l : Loc} (hea : instrEa .general e f m = .ok ea) (hl : m.st.atIn f.dataCtx ea l) (a : AcNum) :
    bodyExch a e f m = .ok (((m.put l (m.x a)).setX a (m.st.get l)).advance 1) := by
  simp only [bodyExch, hea, Run.ok_bind, Mach.read_ok hl.1, Mach.write_ok hl.2, Run.pure_eq]

/-- The second word is read after the first AC is written (R405). -/
theorem bodyDmove_ok {l1 l2 : Loc} (hea : instrEa .general e f m = .ok ea) (hm : m.st.mayInc ea)
    (h1 : m.st.locate ea f.dataCtx .read = .ok l1) (h2 : m.st.locate (inc ea) f.dataCtx .read = .ok l2) (a : AcNum) :
    bodyDmove a e f m =
      .ok (((m.setX a (m.st.get l1)).setX (a + 1) ((m.setX a (m.st.get l1)).st.get l2)).advance 1) := by
  have hi : (m.setX a (m.st.get l1)).incRef ea = .ok (inc ea) := Mach.incRef_ok hm
  have hr : (m.setX a (m.st.get l1)).read (inc ea) f.dataCtx = .ok ((m.setX a (m.st.get l1)).st.get l2) :=
    Mach.read_ok (by simpa using h2)
  simp only [bodyDmove, hea, Run.ok_bind, Mach.read_ok h1, hi, hr, Run.pure_eq]

theorem bodyDmove_refused {l1 : Loc} (hea : instrEa .general e f m = .ok ea) (ht : m.st.topRefused ea)
    (h1 : m.st.locate ea f.dataCtx .read = .ok l1) (a : AcNum) : bodyDmove a e f m = refuse .addressTop := by
  have hi : (m.setX a (m.st.get l1)).incRef ea = refuse .addressTop := Mach.incRef_refused ht
  simp only [bodyDmove, hea, Run.ok_bind, Mach.read_ok h1, hi]
  rfl

theorem bodyDmovem_ok {l1 l2 : Loc} (hea : instrEa .general e f m = .ok ea) (hm : m.st.mayInc ea)
    (h1 : m.st.locate ea f.dataCtx .write = .ok l1) (h2 : m.st.locate (inc ea) f.dataCtx .write = .ok l2) (a : AcNum) :
    bodyDmovem a e f m = .ok (((m.put l1 (m.x a)).put l2 (m.x (a + 1))).advance 1) := by
  have hi : (m.put l1 (m.x a)).incRef ea = .ok (inc ea) := Mach.incRef_ok (State.mayInc_put hm)
  have hw : (m.put l1 (m.x a)).write (inc ea) f.dataCtx (m.x (a + 1)) = .ok ((m.put l1 (m.x a)).put l2 (m.x (a + 1))) :=
    Mach.write_ok (by simpa using h2) _
  simp only [bodyDmovem, hea, Run.ok_bind, Mach.write_ok h1, hi, hw, Run.pure_eq]

theorem bodyDmovem_refused {l1 : Loc} (hea : instrEa .general e f m = .ok ea) (ht : m.st.topRefused ea)
    (h1 : m.st.locate ea f.dataCtx .write = .ok l1) (a : AcNum) : bodyDmovem a e f m = refuse .addressTop := by
  have hi : (m.put l1 (m.x a)).incRef ea = refuse .addressTop := Mach.incRef_refused ⟨by simpa using ht.1, ht.2⟩
  simp only [bodyDmovem, hea, Run.ok_bind, Mach.write_ok h1, hi]
  rfl

/-- MAP asks Map and makes no reference (R399; log 36). -/
theorem bodyMap_ok (hea : instrEa .general e f m = .ok ea) (a : AcNum) :
    bodyMap a e f m = .ok ((m.setX a (m.st.mapAnswer ea f.dataCtx)).drawn.advance 1) := by
  simp only [bodyMap, hea, Run.ok_bind, Run.pure_eq]

theorem bodyMovei_ok (hea : instrEa .immediate e f m = .ok ea) (a : AcNum) :
    bodyMovei a e f m = .ok ((m.setX a (join 0 (offOf ea.addr))).advance 1) := by
  simp only [bodyMovei, hea, Run.ok_bind, Run.pure_eq]

theorem bodyXmovei_ok (hea : instrEa .immediate e f m = .ok ea) (a : AcNum) :
    bodyXmovei a e f m = .ok ((m.setX a (wordOfAddr (convE ea))).advance 1) := by
  simp only [bodyXmovei, hea, Run.ok_bind, Run.pure_eq]

theorem bodySkipa_ok {l : Loc} (hea : instrEa .general e f m = .ok ea) (hl : m.st.locate ea f.dataCtx .read = .ok l) {a : AcNum}
    (ha : a ≠ 0) : bodySkipa a e f m = .ok ((m.setX a (m.st.get l)).advance 2) := by
  simp only [bodySkipa, hea, Run.ok_bind, Mach.read_ok hl, if_neg ha, Run.pure_eq]

end Stores

/-! ## Jumps (43_jumps.md R271 to R281) -/

section Jumps

variable {f : Frame} {m : Mach} {e : AddrFields} {ea : EA} (hea : instrEa .inapplicable e f m = .ok ea)
include hea

theorem bodyJrst_ok : bodyJrst e f m = .ok (m.setPc ea.addr) := by
  simp only [bodyJrst, hea, Run.ok_bind, Run.pure_eq]

theorem bodyXjrst_ok {w : Word} (hw : m.st.memRead ea .cur = .ok w) : bodyXjrst e f m = .ok (m.setPc (addrOf w)) := by
  simp only [bodyXjrst, hea, Run.ok_bind, Mach.read_memRead hw, Run.pure_eq]

theorem bodyJsp_ok (a : AcNum) : bodyJsp a e f m = .ok ((m.setX a m.st.pcWord).setPc ea.addr) := by
  simp only [bodyJsp, hea, Run.ok_bind, Run.pure_eq]

theorem bodyJsr_ok {l : Loc} (hl : m.st.locate ea .cur .write = .ok l) (hm : m.st.mayInc ea) (a : AcNum) :
    bodyJsr a e f m = .ok ((m.put l m.st.pcWord).setPc (inc ea).addr) := by
  have hi : (m.put l m.st.pcWord).incRef ea = .ok (inc ea) := Mach.incRef_ok (State.mayInc_put hm)
  simp only [bodyJsr, hea, Run.ok_bind, Mach.write_ok hl, hi, Run.pure_eq]

theorem bodyJsr_refused {l : Loc} (hl : m.st.locate ea .cur .write = .ok l) (ht : m.st.topRefused ea) (a : AcNum) :
    bodyJsr a e f m = refuse .addressTop := by
  have hi : (m.put l m.st.pcWord).incRef ea = refuse .addressTop := Mach.incRef_refused ⟨by simpa using ht.1, ht.2⟩
  simp only [bodyJsr, hea, Run.ok_bind, Mach.write_ok hl, hi]
  rfl

theorem bodyJsa_ok {l : Loc} (hsec : ¬(secOf ea.addr ≠ m.st.pcSec ∨ (ea.flag = .glob ∧ offOf ea.addr = 0o777777)))
    (hl : m.st.locate ea .cur .write = .ok l) (a : AcNum) :
    bodyJsa a e f m = .ok (((m.put l (m.x a)).setX a (join (offOf ea.addr) (offOf (m.st.pcPlus 1)))).setPc (inc ea).addr) := by
  simp only [bodyJsa, hea, Run.ok_bind, if_neg hsec, Mach.write_ok hl, Run.pure_eq, Mach.put_st, State.put_pcPlus]

theorem bodyJsa_refused (hsec : secOf ea.addr ≠ m.st.pcSec ∨ (ea.flag = .glob ∧ offOf ea.addr = 0o777777)) (a : AcNum) :
    bodyJsa a e f m = refuse .jsaInterSection := by
  simp only [bodyJsa, hea, Run.ok_bind, if_pos hsec]

theorem bodyJra_ok {a : AcNum} {l : Loc} (hl : m.st.locate ⟨mkAddr m.st.pcSec (lh (m.x a)), .loc⟩ .cur .read = .ok l) :
    bodyJra a e f m = .ok ((m.setX a (m.st.get l)).setPc (mkAddr m.st.pcSec (offOf ea.addr))) := by
  simp only [bodyJra, hea, Run.ok_bind, Mach.read_ok hl, Run.pure_eq]

end Jumps

/-! ## Stacks (44_stack.md R311 to R320) -/

section Stacks

variable {m : Mach} {a : AcNum}

/-- The count of a local pointer does not stop the step, for the format, the parameter or the count itself (R318; log 33). -/
theorem stackCheck_ok {g : Bool} {sp : Word} {limit : Half} (h : m.st.cfg.stackOverflow = .continue ∨ g = true ∨ lh sp ≠ limit) :
    stackCheck m g sp limit = .ok () := by
  refine if_neg fun ⟨hg, hl, hr⟩ => ?_
  rcases h with h | h | h
  · rw [h] at hr; cases hr
  · simp [h] at hg
  · exact h hl

theorem stackCheck_refused {g : Bool} {sp : Word} {limit : Half} (h : m.st.cfg.stackOverflow = .refuse) (hg : g = false)
    (hl : lh sp = limit) : stackCheck m g sp limit = refuse .stackOverflow := if_pos ⟨by simp [hg], hl, h⟩

/-- The pointer stepped up, and the address of its new top. -/
theorem pushPointer_ok (h : m.st.mayStep a) :
    pushPointer a m = .ok (spInc (spGlobal m.st.pcSec (m.x a)) (m.x a),
      stackAddr m.st.pcSec (spGlobal m.st.pcSec (m.x a)) (spInc (spGlobal m.st.pcSec (m.x a)) (m.x a))) := by
  obtain ⟨hcount, htop⟩ := h
  have hr : m.ruling (spGlobal m.st.pcSec (m.x a) && atTop ⟨addrOf (m.x a), .glob⟩) .addressTop = .ok () := by
    rcases htop with htop | htop | htop
    · exact Mach.ruling_run htop _ _
    · rw [Mach.x_st, htop]
      exact Mach.ruling_false m _
    · have : atTop ⟨addrOf (m.x a), .glob⟩ = false := by simpa [atTop] using htop
      rw [this, Bool.and_false]
      exact Mach.ruling_false m _
  have hc : stackCheck m (spGlobal m.st.pcSec (m.x a)) (m.x a) 0o777777 = .ok () := stackCheck_ok hcount
  simp only [pushPointer, hc, Run.ok_bind, hr, Run.pure_eq]

/-- The word stored on the stepped top; the place is found before the AC is written. -/
theorem pushWord_ok {l : Loc} (h : m.st.mayStep a)
    (hl : m.st.locate (stackAddr m.st.pcSec (spGlobal m.st.pcSec (m.x a)) (spInc (spGlobal m.st.pcSec (m.x a)) (m.x a))) .cur .write =
      .ok l) (v : Word) :
    pushWord a v m = .ok ((m.setX a (spInc (spGlobal m.st.pcSec (m.x a)) (m.x a))).put l v) := by
  simp only [pushWord, pushPointer_ok h, Run.ok_bind, Mach.locate_ok hl, Run.pure_eq]

theorem pushWord_pageFail {pf : PageFail} (h : m.st.mayStep a)
    (hl : m.st.locate (stackAddr m.st.pcSec (spGlobal m.st.pcSec (m.x a)) (spInc (spGlobal m.st.pcSec (m.x a)) (m.x a))) .cur .write =
      .error pf) (v : Word) : pushWord a v m = .error (.trap (.pageFail pf) m) := by
  simp only [pushWord, pushPointer_ok h, Run.ok_bind, Mach.locate, hl, Run.error_bind]

theorem topOfStack_ok {l : Loc} (hl : m.st.locate (stackAddr m.st.pcSec (spGlobal m.st.pcSec (m.x a)) (m.x a)) .cur .read = .ok l) :
    topOfStack a m = .ok (m.st.get l) := Mach.read_ok hl

theorem popPointer_ok {sp : Word} (h : m.st.cfg.stackOverflow = .continue ∨ spGlobal m.st.pcSec sp = true ∨ lh sp ≠ 0) :
    popPointer a sp m = .ok (m.setX a (spDec (spGlobal m.st.pcSec sp) sp)) := by
  simp only [popPointer, stackCheck_ok h, Run.ok_bind, Run.pure_eq]

variable {f : Frame} {e : AddrFields} {ea : EA}

theorem bodyPush_ok {le lt : Loc} (hea : instrEa .stack e f m = .ok ea) (h : m.st.mayStep a)
    (hle : m.st.locate ea f.dataCtx .read = .ok le)
    (hlt : m.st.locate (stackAddr m.st.pcSec (spGlobal m.st.pcSec (m.x a)) (spInc (spGlobal m.st.pcSec (m.x a)) (m.x a))) .cur .write =
      .ok lt) :
    bodyPush a e f m =
      .ok (((m.setX a (spInc (spGlobal m.st.pcSec (m.x a)) (m.x a))).put lt (m.st.get le)).advance 1) := by
  simp only [bodyPush, hea, Run.ok_bind, Mach.read_ok hle, pushWord_ok h hlt, Run.pure_eq]

theorem bodyPop_ok {le lt : Loc} (hea : instrEa .stack e f m = .ok ea)
    (h : m.st.cfg.stackOverflow = .continue ∨ spGlobal m.st.pcSec (m.x a) = true ∨ lh (m.x a) ≠ 0)
    (hlt : m.st.locate (stackAddr m.st.pcSec (spGlobal m.st.pcSec (m.x a)) (m.x a)) .cur .read = .ok lt)
    (hle : m.st.locate ea f.dataCtx .write = .ok le) :
    bodyPop a e f m =
      .ok (((m.put le (m.st.get lt)).setX a (spDec (spGlobal m.st.pcSec (m.x a)) (m.x a))).advance 1) := by
  have hp : popPointer a (m.x a) (m.put le (m.st.get lt)) =
      .ok ((m.put le (m.st.get lt)).setX a (spDec (spGlobal m.st.pcSec (m.x a)) (m.x a))) := by
    rw [popPointer_ok (by simpa using h), Mach.put_st, State.put_pcSec]
  simp only [bodyPop, hea, Run.ok_bind, topOfStack_ok hlt, Mach.write_ok hle, hp, Run.pure_eq]

theorem bodyPushj_ok {lt : Loc} (hea : instrEa .inapplicable e f m = .ok ea) (h : m.st.mayStep a)
    (hlt : m.st.locate (stackAddr m.st.pcSec (spGlobal m.st.pcSec (m.x a)) (spInc (spGlobal m.st.pcSec (m.x a)) (m.x a))) .cur .write =
      .ok lt) :
    bodyPushj a e f m =
      .ok (((m.setX a (spInc (spGlobal m.st.pcSec (m.x a)) (m.x a))).put lt m.st.pcWord).setPc ea.addr) := by
  simp only [bodyPushj, hea, Run.ok_bind, pushWord_ok h hlt, Run.pure_eq]

theorem bodyPopj_ok {lt : Loc} (hea : instrEa .inapplicable e f m = .ok ea)
    (h : m.st.cfg.stackOverflow = .continue ∨ spGlobal m.st.pcSec (m.x a) = true ∨ lh (m.x a) ≠ 0)
    (hlt : m.st.locate (stackAddr m.st.pcSec (spGlobal m.st.pcSec (m.x a)) (m.x a)) .cur .read = .ok lt) :
    bodyPopj a e f m = .ok ((m.setX a (spDec (spGlobal m.st.pcSec (m.x a)) (m.x a))).setPc
      (if m.st.pcSec ≠ 0 then addrOf (m.st.get lt) else mkAddr 0 (rh (m.st.get lt)))) := by
  have hp : (m.setX a (spDec (spGlobal m.st.pcSec (m.x a)) (m.x a))).st.pcSec = m.st.pcSec := rfl
  simp only [bodyPopj, hea, Run.ok_bind, topOfStack_ok hlt, popPointer_ok (a := a) h, Run.pure_eq, hp]

theorem bodyPushj_pageFail {pf : PageFail} (hea : instrEa .inapplicable e f m = .ok ea) (h : m.st.mayStep a)
    (hlt : m.st.locate (stackAddr m.st.pcSec (spGlobal m.st.pcSec (m.x a)) (spInc (spGlobal m.st.pcSec (m.x a)) (m.x a))) .cur .write =
      .error pf) : bodyPushj a e f m = .error (.trap (.pageFail pf) m) := by
  simp only [bodyPushj, hea, Run.ok_bind, pushWord_pageFail h hlt, Run.error_bind]

theorem bodyPushj_overflow (hea : instrEa .inapplicable e f m = .ok ea) (h : m.st.cfg.stackOverflow = .refuse)
    (hg : spGlobal m.st.pcSec (m.x a) = false) (hl : lh (m.x a) = 0o777777) : bodyPushj a e f m = refuse .stackOverflow := by
  have hc : stackCheck m (spGlobal m.st.pcSec (m.x a)) (m.x a) 0o777777 = refuse .stackOverflow := stackCheck_refused h hg hl
  simp only [bodyPushj, hea, Run.ok_bind, pushWord, pushPointer, hc]
  rfl

theorem bodyPopj_underflow {lt : Loc} (hea : instrEa .inapplicable e f m = .ok ea) (h : m.st.cfg.stackOverflow = .refuse)
    (hg : spGlobal m.st.pcSec (m.x a) = false) (hl : lh (m.x a) = 0)
    (hlt : m.st.locate (stackAddr m.st.pcSec (spGlobal m.st.pcSec (m.x a)) (m.x a)) .cur .read = .ok lt) :
    bodyPopj a e f m = refuse .stackOverflow := by
  have hc : stackCheck m (spGlobal m.st.pcSec (m.x a)) (m.x a) 0 = refuse .stackOverflow := stackCheck_refused h hg hl
  simp only [bodyPopj, hea, Run.ok_bind, topOfStack_ok hlt, popPointer, hc]
  rfl

theorem bodyPushj_top (hea : instrEa .inapplicable e f m = .ok ea) (h : m.st.cfg.rulings = .refuse)
    (hg : spGlobal m.st.pcSec (m.x a) = true) (ht : addrOf (m.x a) = 0o7777777777) :
    bodyPushj a e f m = refuse .addressTop := by
  have hc : stackCheck m (spGlobal m.st.pcSec (m.x a)) (m.x a) 0o777777 = .ok () := stackCheck_ok (.inr (.inl hg))
  have hr : m.ruling (spGlobal m.st.pcSec (m.x a) && atTop ⟨addrOf (m.x a), .glob⟩) .addressTop = refuse .addressTop := by
    rw [hg, ht]
    exact Mach.ruling_refuse h _
  simp only [bodyPushj, hea, Run.ok_bind, pushWord, pushPointer, hc, hr]
  rfl

end Stacks

end Sys2Proof.Machine
end

section
/-! PROOFS. The storing instructions of spec/47_general.md, MAP, and the jumps and stack instructions at PC. -/

namespace Sys2Proof.Machine

/-- A meaning that gives a next machine is its step. -/
theorem exec_ok (i : Instr) (s : State) {m : Mach} (h : bodyOf runWord i s.top (.start s (some (trapWord i))) = .ok m) :
    exec i s = .next m.st := exec_next ⟨m, h, rfl⟩

/-- A step by one is to the next instruction. -/
theorem Mach.advance_one (m : Mach) : (m.advance 1).st = m.st.nextPc := rfl

/-- A machine's own write of an AC is the state's. -/
theorem Mach.setX_state (m : Mach) (n : AcNum) (v : Word) : (m.setX n v).st = m.st.setX n v := rfl

/-- Settles O22: the references are made in the order of the stores, and where Inc(E) is refused it is after the first of them. -/
theorem storingMoves : Obligations.StoringMoves := by
  refine ⟨fun a e s ea l hea hl => ⟨?movem, ?setzb, fun hr => ?exch, fun l' v hne => ?frame⟩,
    fun a e s ea l1 l2 hea => ⟨fun hm h1 h2 => ?dmove, fun hm h1 h2 => ?dmovem, fun ht hat => ⟨?dmoveTop, ?dmovemTop⟩⟩⟩
  case movem => exact exec_ok (.movem a e) s (bodyMovem_ok (instrEa_ok hea _ _) hl a)
  case setzb =>
    exact exec_ok (.setzb a e) s (bodySetzb_ok (instrEa_ok hea _ _) hl a)
  case exch =>
    exact exec_ok (.exch a e) s (bodyExch_ok (instrEa_ok hea _ _) ⟨hr, hl⟩ a)
  case frame =>
    have hput := State.get_put_other s hne v
    cases l' <;> exact hput
  case dmove => exact exec_ok (.dmove a e) s (bodyDmove_ok (instrEa_ok hea _ _) hm h1 h2 a)
  case dmovem => exact exec_ok (.dmovem a e) s (bodyDmovem_ok (instrEa_ok hea _ _) hm h1 h2 a)
  case dmoveTop => exact exec_refused (bodyDmove_refused (instrEa_ok hea _ _) ht hat.1 a)
  case dmovemTop => exact exec_refused (bodyDmovem_refused (instrEa_ok hea _ _) ht hat.2 a)

/-- PC+1 keeps the section of the PC (10_state.md R27). -/
theorem State.offOf_pcPlus (s : State) (k : Half) : offOf (s.pcPlus k) = offOf s.pc + k := offOf_mkAddr _ _

/-- An address put together from its parts, as a word. -/
theorem wordOfAddr_mkAddr (s : Sec) (n : Half) : wordOfAddr (mkAddr s n) = (0 : BitVec 6) ++ s ++ n := by
  refine BitVec.eq_of_toNat_eq ?_
  rw [wordOfAddr, BitVec.toNat_setWidth_of_le (by decide), mkAddr, BitVec.toNat_append, BitVec.toNat_append, BitVec.toNat_append]
  simp

/-- Settles O36: each meaning is its EA-calc and the PC it names; the word stored is computed before the jump. -/
theorem plainJumps : Obligations.PlainJumps := by
  refine ⟨fun a e s ea hea => ⟨?jrst, fun w hw => ?xjrst, ?jsp⟩, fun s => ⟨fun hz => ?global, fun hz => ?flags, fun hz hl => ?standard⟩⟩
  case jrst => exact exec_ok (.jrst e) s (bodyJrst_ok (instrEa_ok hea _ _))
  case xjrst => exact exec_ok (.xjrst e) s (bodyXjrst_ok (instrEa_ok hea _ _) hw)
  case jsp => exact exec_ok (.jsp a e) s (bodyJsp_ok (instrEa_ok hea _ _) a)
  case global =>
    rw [State.pcWord, if_neg hz]
    exact wordOfAddr_mkAddr _ _
  case flags => rw [State.pcWord, if_pos hz, State.offOf_pcPlus]
  case standard => rw [State.pcWord, if_pos hz, State.offOf_pcPlus, hl, flagsPC_standard]

/-- Settles O37: the store comes before the jump, and the checks of JSA before the store. -/
theorem subroutineJumps : Obligations.SubroutineJumps := by
  intro a e s ea l hea
  refine ⟨fun hl => ⟨fun hm => ?jsr, fun ht => ?jsrTop⟩, fun hsec hoff hl => ?jsa, fun hsec => ?jsaRefused, fun hl => ?jra⟩
  case jsr => exact exec_ok (.jsr a e) s (bodyJsr_ok (instrEa_ok hea _ _) hl hm a)
  case jsrTop => exact exec_refused (bodyJsr_refused (instrEa_ok hea _ _) hl ht a)
  case jsa =>
    have hin : ¬(secOf ea.addr ≠ s.pcSec ∨ (ea.flag = .glob ∧ offOf ea.addr = 0o777777)) := by
      rintro (h | ⟨hg, ho⟩)
      · exact h hsec
      · rcases hoff with h | h
        · rw [hg] at h; cases h
        · exact h ho
    refine exec_next ⟨_, bodyJsa_ok (instrEa_ok hea _ _) hin hl a, ?_⟩
    simp only [Mach.setPc_st, Mach.setX_st, Mach.put_st, Mach.start_st, Mach.x_st, State.offOf_pcPlus]
  case jsaRefused => exact exec_refused (bodyJsa_refused (instrEa_ok hea _ _) hsec a)
  case jra => exact exec_ok (.jra a e) s (bodyJra_ok (instrEa_ok hea _ _) hl)

/-- ADJSP at PC: its sum, and the end of a data step for its flags (log 34). -/
theorem exec_adjsp {a : AcNum} {e : AddrFields} {s : State} {ea : EA} (hea : s.eaOf e = .ok ea) :
    exec (.adjsp a e) s = .next ((s.setX a
      (if spGlobal s.pcSec (s.x a) then withAddr (s.x a) (addrOf (s.x a) + sext30 (offOf ea.addr))
       else join (lh (s.x a) + offOf ea.addr) (rh (s.x a) + offOf ea.addr))).dataEnd 0o105
        [s.x a, join 0 (offOf ea.addr)] (s.pcPlus 1)) := by
  have hb : bodyAdjsp a e s.top (.start s (some (trapWord (.adjsp a e)))) = .ok ((((Mach.start s
        (some (trapWord (.adjsp a e)))).setX a
      (if spGlobal s.pcSec (s.x a) then withAddr (s.x a) (addrOf (s.x a) + sext30 (offOf ea.addr))
       else join (lh (s.x a) + offOf ea.addr) (rh (s.x a) + offOf ea.addr))).dataFlags 0o105
        [s.x a, join 0 (offOf ea.addr)]).advance 1) := by
    simp only [bodyAdjsp, instrEa_ok hea, Run.ok_bind, Run.pure_eq, Mach.x_st, Mach.start_st]
    rfl
  exact exec_ok (.adjsp a e) s hb

/-- Settles O40: the format of the pointer is read before the step, and each store finds the state the step before it leaves. -/
theorem pushPop : Obligations.PushPop := by
  refine ⟨fun a e s ea lt le hea => ⟨fun hm hle hlt => ?push, fun hm hlt hle => ?pop⟩, fun a e s ea hea => exec_adjsp hea⟩
  case push => exact exec_ok (.push a e) s (bodyPush_ok (instrEa_ok hea _ _) hm hle hlt)
  case pop => exact exec_ok (.pop a e) s (bodyPop_ok (instrEa_ok hea _ _) hm hlt hle)

/-- Settles O41: the check of the count comes first, then the place of the store, then the store. -/
theorem pushjPopj : Obligations.PushjPopj := by
  refine ⟨fun a e s ea lt hea => ⟨fun hm hlt => ?pushj, fun pf hm hlt ht => ?pageFail, fun hm hlt => ?popj⟩,
    fun a e s ea l hea hso hloc => ⟨fun hlim => ?pushjFull, fun hlim hl => ?popjEmpty⟩, fun a e s ea hea hr hg htop => ?top⟩
  case pushj =>
    have hb := bodyPushj_ok (m := .start s (some (trapWord (.pushj a e)))) (instrEa_ok hea _ _) hm hlt
    rw [exec_ok (.pushj a e) s hb]
    rfl
  case pageFail =>
    exact exec_pageFail ht (bodyPushj_pageFail (m := .start s (some (trapWord (.pushj a e)))) (instrEa_ok hea _ _) hm hlt)
  case popj =>
    have hb := bodyPopj_ok (m := .start s (some (trapWord (.popj a e)))) (instrEa_ok hea _ _) hm hlt
    rw [exec_ok (.popj a e) s hb]
    rfl
  case pushjFull =>
    exact exec_refused (bodyPushj_overflow (m := .start s (some (trapWord (.pushj a e)))) (instrEa_ok hea _ _) hso hloc hlim)
  case popjEmpty =>
    have ht : s.locate (stackAddr s.pcSec (spGlobal s.pcSec (s.x a)) (s.x a)) .cur .read = .ok l := by
      rw [hloc]
      exact hl
    exact exec_refused (bodyPopj_underflow (m := .start s (some (trapWord (.popj a e)))) (instrEa_ok hea _ _) hso hloc hlim ht)
  case top =>
    exact exec_refused (bodyPushj_top (m := .start s (some (trapWord (.pushj a e)))) (instrEa_ok hea _ _) hr hg htop)

end Sys2Proof.Machine
end

section
/-! PROOFS. Byte pointers and the byte instructions (spec/41_byte.md) in any frame: what the fetch, the step and the EA-calc of a
pointer give, and what each instruction leaves. -/

namespace Sys2Proof.Machine

/-! ## The steps of R200 and R208 -/

section Pointers

variable {f : Frame} {m : Mach} {e : AddrFields} {ea : EA} {k : BpKind} {w1 w2 : Word}

/-- A pointer of one word (R201, R202). -/
theorem fetchPointer_one (hea : instrEa .byte e f m = .ok ea) (h1 : m.st.memRead ea f.dataCtx = .ok w1)
    (hk : decodeBP w1 (secOf ea.addr) = k) (hne : k ≠ .twoGlobal) : fetchPointer e f m = .ok ⟨ea, k, w1, 0⟩ := by
  simp only [fetchPointer, hea, Run.ok_bind, Mach.read_memRead h1, hk, if_neg hne, Run.pure_eq]

/-- A pointer of two words (R203). -/
theorem fetchPointer_two (hea : instrEa .byte e f m = .ok ea) (h1 : m.st.memRead ea f.dataCtx = .ok w1)
    (hk : decodeBP w1 (secOf ea.addr) = .twoGlobal) (hm : m.st.mayInc ea) (h2 : m.st.memRead (inc ea) f.dataCtx = .ok w2) :
    fetchPointer e f m = .ok ⟨ea, .twoGlobal, w1, w2⟩ := by
  simp only [fetchPointer, hea, Run.ok_bind, Mach.read_memRead h1, hk, if_true, Mach.incRef_ok hm, Mach.read_memRead h2,
    Run.pure_eq]

variable {p : FetchedPtr} {pos size : Nat} {be : EA} {l : Loc}

theorem loadByte_ok (hf : bpFields m.st.cfg p.kind p.w1 = .ok (pos, size)) (hb : byteAddress p f m = .ok be)
    (hl : m.st.locate be f.byteCtx .read = .ok l) (a : AcNum) :
    loadByte a p f m = .ok (m.setX a (byteOf pos size (m.st.get l))) := by
  simp only [loadByte, hf, Run.ok_bind, hb, Mach.read_ok hl, Run.pure_eq]

theorem storeByte_ok (hf : bpFields m.st.cfg p.kind p.w1 = .ok (pos, size)) (hb : byteAddress p f m = .ok be)
    (hl : m.st.atIn f.byteCtx be l) (a : AcNum) :
    storeByte a p f m = .ok (m.put l (depositByte pos size (m.st.get l) (m.x a))) := by
  simp only [storeByte, hf, Run.ok_bind, hb, Mach.read_ok hl.1, Mach.write_ok hl.2]

/-- The write-back of a step that leaves the second word alone. -/
theorem stepPointer_one {l1 : Loc} {w1' w2' : Word} (hi : incBP m.st.cfg p.kind p.w1 p.w2 = .ok (w1', w2'))
    (hl : m.st.locate p.ea f.dataCtx .write = .ok l1) (hne : ¬(p.kind = .twoGlobal ∧ w2' ≠ p.w2)) :
    stepPointer p f m = .ok ({ p with w1 := w1', w2 := w2' }, m.put l1 w1') := by
  simp only [stepPointer, hi, Run.ok_bind, Mach.write_ok hl, if_neg hne, Run.pure_eq]

/-- The write-back of a step to the next word of a two-word pointer. -/
theorem stepPointer_two {l1 l2 : Loc} {w1' w2' : Word} (hi : incBP m.st.cfg p.kind p.w1 p.w2 = .ok (w1', w2'))
    (hl : m.st.locate p.ea f.dataCtx .write = .ok l1) (h2 : p.kind = .twoGlobal ∧ w2' ≠ p.w2)
    (hl2 : m.st.locate (inc p.ea) f.dataCtx .write = .ok l2) :
    stepPointer p f m = .ok ({ p with w1 := w1', w2 := w2' }, (m.put l1 w1').put l2 w2') := by
  have hw : (m.put l1 w1').write (inc p.ea) f.dataCtx w2' = .ok ((m.put l1 w1').put l2 w2') :=
    Mach.write_ok (by simpa using hl2) _
  simp only [stepPointer, hi, Run.ok_bind, Mach.write_ok hl, if_pos h2, hw, Run.pure_eq]

end Pointers

/-! ## The instructions, from the pointer they fetch -/

section Bytes

variable {f : Frame} {m m' : Mach} {e : AddrFields} {p q : FetchedPtr} {pos size : Nat} {be : EA} {l : Loc}

theorem bodyLdb_ok (hp : fetchPointer e f m = .ok p) (hf : bpFields m.st.cfg p.kind p.w1 = .ok (pos, size))
    (hb : byteAddress p f m = .ok be) (hl : m.st.locate be f.byteCtx .read = .ok l) (a : AcNum) :
    bodyLdb a e f m = .ok ((m.setX a (byteOf pos size (m.st.get l))).advance 1) := by
  simp only [bodyLdb, hp, Run.ok_bind, loadByte_ok hf hb hl, Run.pure_eq]

theorem bodyDpb_ok (hp : fetchPointer e f m = .ok p) (hf : bpFields m.st.cfg p.kind p.w1 = .ok (pos, size))
    (hb : byteAddress p f m = .ok be) (hl : m.st.atIn f.byteCtx be l) (a : AcNum) :
    bodyDpb a e f m = .ok ((m.put l (depositByte pos size (m.st.get l) (m.x a))).advance 1) := by
  simp only [bodyDpb, hp, Run.ok_bind, storeByte_ok hf hb hl, Run.pure_eq]

theorem bodyIbp_ok (hp : fetchPointer e f m = .ok p) (hs : stepPointer p f m = .ok (q, m')) :
    bodyIbp 0 e f m = .ok (m'.advance 1) := by
  simp only [bodyIbp, if_true, hp, Run.ok_bind, hs, Run.pure_eq]

theorem bodyIldb_ok (hp : fetchPointer e f m = .ok p) (hs : stepPointer p f m = .ok (q, m'))
    (hf : bpFields m'.st.cfg q.kind q.w1 = .ok (pos, size)) (hb : byteAddress q f m' = .ok be)
    (hl : m'.st.locate be f.byteCtx .read = .ok l) (a : AcNum) :
    bodyIldb a e f m = .ok ((m'.setX a (byteOf pos size (m'.st.get l))).advance 1) := by
  simp only [bodyIldb, hp, Run.ok_bind, hs, loadByte_ok hf hb hl, Run.pure_eq]

theorem bodyIdpb_ok (hp : fetchPointer e f m = .ok p) (hs : stepPointer p f m = .ok (q, m'))
    (hf : bpFields m'.st.cfg q.kind q.w1 = .ok (pos, size)) (hb : byteAddress q f m' = .ok be)
    (hl : m'.st.atIn f.byteCtx be l) (a : AcNum) :
    bodyIdpb a e f m = .ok ((m'.put l (depositByte pos size (m'.st.get l) (m'.x a))).advance 1) := by
  simp only [bodyIdpb, hp, Run.ok_bind, hs, storeByte_ok hf hb hl, Run.pure_eq]

theorem bodyAdjbp_ok {a : AcNum} (ha : a ≠ 0) (hp : fetchPointer e f m = .ok p)
    (hf : bpFields m.st.cfg p.kind p.w1 = .ok (pos, size)) (hb : byteAddress p f m = .ok be) :
    bodyIbp a e f m = .ok ((setResults 0o133 [m.x a, m.x (a + 1), p.w1, p.w2] a [0, 1] m).advance 1) := by
  simp only [bodyIbp, if_neg ha, adjbp, hp, Run.ok_bind, hf, hb, Run.pure_eq]

theorem bodyAdjbp_refused {a : AcNum} {r : Refusal} (ha : a ≠ 0) (hp : fetchPointer e f m = .ok p)
    (hf : bpFields m.st.cfg p.kind p.w1 = refuse r) : bodyIbp a e f m = refuse r := by
  simp only [bodyIbp, if_neg ha, adjbp, hp, Run.ok_bind, hf]
  rfl

end Bytes

/-! ## At PC -/

/-- The words of the pointer at `ea` in current context, the second one 0 where the format has none. -/
def State.ptrWords (s : State) (ea : EA) (k : BpKind) (w1 w2 : Word) : Prop :=
  s.memRead ea .cur = .ok w1 ∧ decodeBP w1 (secOf ea.addr) = k ∧
    if k = .twoGlobal then s.mayInc ea ∧ s.memRead (inc ea) .cur = .ok w2 else w2 = 0

theorem State.pointsTo.words {s : State} {ea be : EA} {k : BpKind} {w1 w2 : Word} {p sz : Nat}
    (h : s.pointsTo ea k w1 w2 p sz be) : s.ptrWords ea k w1 w2 := by
  obtain ⟨h1, hk, h⟩ := h
  refine ⟨h1, hk, ?_⟩
  cases k with
  | oneLocal => exact h.1
  | oneGlobal => exact h.1
  | twoGlobal =>
    obtain ⟨hm, h2, -⟩ := h
    exact ⟨hm, h2⟩

theorem fetchPointer_top {s : State} {e : AddrFields} {ea : EA} {k : BpKind} {w1 w2 : Word} (hea : s.eaOf e = .ok ea)
    (h : s.ptrWords ea k w1 w2) (iw : Option Word) : fetchPointer e s.top (.start s iw) = .ok ⟨ea, k, w1, w2⟩ := by
  obtain ⟨h1, hk, h2⟩ := h
  by_cases hk2 : k = .twoGlobal
  · rw [if_pos hk2] at h2
    obtain ⟨hm, h2⟩ := h2
    subst hk2
    exact fetchPointer_two (instrEa_ok hea _ _) h1 hk hm h2
  · rw [if_neg hk2] at h2
    subst h2
    exact fetchPointer_one (instrEa_ok hea _ _) h1 hk hk2

theorem State.pointsTo.fields {s : State} {ea be : EA} {k : BpKind} {w1 w2 : Word} {p sz : Nat}
    (h : s.pointsTo ea k w1 w2 p sz be) : bpFields s.cfg k w1 = .ok (p, sz) := by
  obtain ⟨-, -, h⟩ := h
  cases k with
  | oneLocal =>
    obtain ⟨-, rfl, rfl, -⟩ := h
    rfl
  | oneGlobal =>
    obtain ⟨-, ht, -⟩ := h
    simp only [bpFields, ht]
  | twoGlobal =>
    obtain ⟨-, -, rfl, rfl, -⟩ := h
    rfl

/-- The EA-calc of a pointer at PC; a second word the format has not, does not matter. -/
theorem State.pointsTo.address {m : Mach} {f : Frame} {ea be : EA} {k : BpKind} {w1 w2 w : Word} {p sz : Nat}
    (h : m.st.pointsTo ea k w1 w2 p sz be) (hf : f.px = none) (hw : k = .twoGlobal → w = w2) :
    byteAddress ⟨ea, k, w1, w⟩ f m = .ok be := by
  obtain ⟨-, -, h⟩ := h
  have hbits : f.bits = ⟨false, false, false, false⟩ := by rw [Frame.bits, hf]; rfl
  cases k with
  | oneLocal =>
    obtain ⟨-, -, -, hbe⟩ := h
    simp only [byteAddress, bpAddress, hbits, State.pxEaCalc_clear, reduceCtorEq, if_false, hbe]
    rfl
  | oneGlobal =>
    obtain ⟨-, -, rfl⟩ := h
    rfl
  | twoGlobal =>
    obtain ⟨-, -, -, -, aw, haw, hbe⟩ := h
    rw [hw rfl]
    simp only [byteAddress, bpAddress, hbits, State.pxEaCalc_clear, if_true, pxSec, Bool.false_eq_true, if_false, haw, hbe]
    rfl

/-- Settles O32: the fetch, the fields and the EA-calc of the pointer, then its byte. -/
theorem byteLoadAndDeposit : Obligations.ByteLoadAndDeposit := by
  intro a e s ea k w1 w2 p sz be l hea hp
  have hfetch := fetchPointer_top hea hp.words
  have haddr : ∀ iw, byteAddress ⟨ea, k, w1, w2⟩ s.top (.start s iw) = .ok be := fun iw =>
    State.pointsTo.address (m := .start s iw) hp rfl fun _ => rfl
  exact ⟨fun hl => exec_ok (.ldb a e) s (bodyLdb_ok (hfetch _) hp.fields (haddr _) hl a),
    fun hl => exec_ok (.dpb a e) s (bodyDpb_ok (hfetch _) hp.fields (haddr _) hl a)⟩

/-- The step of the pointer at PC, and the words it leaves. -/
theorem stepPointer_top {s s1 : State} {ea : EA} {k : BpKind} (h : s.stepsPointer s1 ea k) (iw : Option Word) :
    ∃ w1 w2 w1' w2' m', s.ptrWords ea k w1 w2 ∧ stepPointer ⟨ea, k, w1, w2⟩ s.top (.start s iw) = .ok (⟨ea, k, w1', w2'⟩, m') ∧
      m'.st = s1 ∧ s1.memRead ea .cur = .ok w1' ∧ (k = .twoGlobal → s1.memRead (inc ea) .cur = .ok w2') := by
  obtain ⟨w1, w2, w1', w2', l1, h1, hk, h2, hi, hl1, hs1, h1', -, h2'⟩ := h
  by_cases hstep : k = .twoGlobal ∧ w2' ≠ w2
  · rw [if_pos hstep] at hs1
    obtain ⟨l2, hl2, rfl⟩ := hs1
    exact ⟨w1, w2, w1', w2', _, ⟨h1, hk, h2⟩, stepPointer_two hi hl1 hstep hl2, rfl, h1', h2'⟩
  · rw [if_neg hstep] at hs1
    subst hs1
    exact ⟨w1, w2, w1', w2', _, ⟨h1, hk, h2⟩, stepPointer_one hi hl1 hstep, rfl, h1', h2'⟩

/-- The second word of a two-word pointer is the word after the first. -/
theorem State.pointsTo.second {s : State} {ea be : EA} {k : BpKind} {w1 w2 w : Word} {p sz : Nat}
    (h : s.pointsTo ea k w1 w2 p sz be) (hk : k = .twoGlobal) (hw : s.memRead (inc ea) .cur = .ok w) : w = w2 := by
  have h2 := h.words.2.2
  rw [if_pos hk] at h2
  exact Except.ok.inj (hw.symm.trans h2.2)

/-- Settles O33: the words written back are the words the EA-calc of the byte then finds. -/
theorem incrementedBytes : Obligations.IncrementedBytes := by
  intro a e s s1 ea k hea hstep
  have hsteps := stepPointer_top hstep
  refine ⟨?ibp, fun u1 u2 p sz be l hp => ⟨fun hl => ?ildb, fun hl => ?idpb⟩⟩
  case ibp =>
    obtain ⟨w1, w2, w1', w2', m', hw, hs, rfl, -⟩ := hsteps (some (trapWord (.ibp 0 e)))
    exact exec_ok (.ibp 0 e) s (bodyIbp_ok (fetchPointer_top hea hw _) hs)
  case ildb =>
    obtain ⟨w1, w2, w1', w2', m', hw, hs, rfl, h1, h2⟩ := hsteps (some (trapWord (.ildb a e)))
    obtain rfl : u1 = w1' := Except.ok.inj (hp.1.symm.trans h1)
    exact exec_ok (.ildb a e) s (bodyIldb_ok (fetchPointer_top hea hw _) hs hp.fields
      (hp.address rfl fun hk => State.pointsTo.second hp hk (h2 hk)) hl a)
  case idpb =>
    obtain ⟨w1, w2, w1', w2', m', hw, hs, rfl, h1, h2⟩ := hsteps (some (trapWord (.idpb a e)))
    obtain rfl : u1 = w1' := Except.ok.inj (hp.1.symm.trans h1)
    exact exec_ok (.idpb a e) s (bodyIdpb_ok (fetchPointer_top hea hw _) hs hp.fields
      (hp.address rfl fun hk => State.pointsTo.second hp hk (h2 hk)) hl a)

/-- Settles O35: ADJBP's results are free values of what it fetched, MAP's of what Map answers. -/
theorem adjbpAndMap : Obligations.AdjbpAndMap := by
  refine ⟨fun a e s ea k w1 w2 p sz be ha hea hp => ?adjbp, fun a e s ea w ha hea hw hp htab => ?reserved, fun a e s ea hea => ?map⟩
  case adjbp =>
    exact exec_ok (.ibp a e) s (bodyAdjbp_ok ha (fetchPointer_top hea hp.words _) hp.fields
      (State.pointsTo.address (m := .start s _) hp rfl fun _ => rfl))
  case reserved =>
    have hk : decodeBP w (secOf ea.addr) = .oneGlobal := by rw [decodeBP, if_pos (by omega)]
    have hf : bpFields s.cfg .oneGlobal w = refuse .owgbpReserved := by
      rw [bpFields, htab, hp]
      rfl
    exact exec_refused (bodyAdjbp_refused ha (fetchPointer_top hea ⟨hw, hk, rfl⟩ _) hf)
  case map => exact exec_ok (.map a e) s (bodyMap_ok (instrEa_ok hea _ _) a)

end Sys2Proof.Machine
end

section
/-! PROOFS. The end of an instruction before it does anything: page fails of the EA-calc (spec/40_ea_calc.md section 5), terminal events
(60_exceptions.md R480) and the instructions the memo leaves out (43_jumps.md R286). -/

namespace Sys2Proof.Machine

/-! ## The EA-calc comes first -/

/-- In the meaning `b` of an instruction with the fields `e`, a page fail of the EA-calc at PC is the whole effect. -/
def EaFirst (e : AddrFields) (b : Body) : Prop :=
  ∀ (s : State) (pf : PageFail) (iw : Option Word), s.eaOf e = .error (.pageFail pf) →
    b s.top (.start s iw) = .error (.trap (.pageFail pf) (.start s iw))

/-- A meaning that goes on from its E. -/
theorem EaFirst.of_bind {e : AddrFields} {b : Body} {k : PxClass} {g : Frame → Mach → EA → Run Mach}
    (h : ∀ f m, b f m = instrEa k e f m >>= g f m) : EaFirst e b := fun s pf iw hea => by
  rw [h, instrEa_pageFail hea]
  rfl

/-- A meaning that goes on from the pointer at its E. -/
theorem EaFirst.of_pointer {e : AddrFields} {b : Body} {g : Frame → Mach → FetchedPtr → Run Mach}
    (h : ∀ f m, b f m = fetchPointer e f m >>= g f m) : EaFirst e b := fun s pf iw hea => by
  rw [h, fetchPointer, instrEa_pageFail hea]
  rfl

/-- EXTEND's E0 is an EA-calc of its own. -/
theorem eaFirst_extend (a : AcNum) (e : AddrFields) : EaFirst e (bodyExtend a e) := fun s pf iw hea => by
  have hg : s.top.guardExtend = .ok () := rfl
  have he : s.eaCalc (.ifiw e) s.pcSec .cur = .error (.pageFail pf) := hea
  simp only [bodyExtend, hg, Run.ok_bind, Mach.start_st, State.top_sec, he, Mach.ea, Run.error_bind]

/-- Settles O19: every one of these meanings goes on from its E, LDB and IDPB from the pointer at it. -/
theorem eaPageFailTaken : Obligations.EaPageFailTaken := by
  have hfirst : ∀ i ∈ ([.move, .movem, .dmove, .add, .fadr, .andb, .hrrm, .aos, .tdne, .lsh, .sojg, .ldb, .idpb, .push, .pushj, .jsr,
      .jsp, .blt, .extend, .luuo01, .muuo000, .jsys, .exch, .map] : List (AcNum → AddrFields → Instr)),
      ∀ a e, EaFirst e (bodyOf runWord (i a e)) := by
    simp only [List.forall_mem_cons]
    refine ⟨?move, ?movem, ?dmove, ?add, ?fadr, ?andb, ?hrrm, ?aos, ?tdne, ?lsh, ?sojg, ?ldb, ?idpb, ?push, ?pushj, ?jsr, ?jsp,
      ?blt, ?extend, ?luuo01, ?muuo000, ?jsys, ?exch, ?map, List.forall_mem_nil _⟩
    case ldb => exact fun a e => .of_pointer (b := bodyLdb a e) fun _ _ => rfl
    case idpb => exact fun a e => .of_pointer (b := bodyIdpb a e) fun _ _ => rfl
    case extend => exact eaFirst_extend
    all_goals exact fun a e => .of_bind fun _ _ => rfl
  exact fun i hi a e s pf hea ht => exec_pageFail ht (hfirst i hi a e s pf _ hea)

/-! ## Terminal events -/

/-- An event of an instruction that has written nothing, without its entry. -/
theorem takeTrap_muuo_none {s : State} {iw : Option Word} {op : BitVec 9} {a : AcNum} {e : EA} (h : s.cfg.traps.muuo = none) :
    takeTrap (.muuo op a e) (.start s iw) = .fault (.terminalTrap (muuoEvent s op a e)) := by
  simp [takeTrap, enterBy, State.scramble, h]

theorem takeTrap_pageFail_none {s : State} {iw : Option Word} {pf : PageFail} (h : s.cfg.traps.pageFail = none) :
    takeTrap (.pageFail pf) (.start s iw) = .fault (.terminalTrap (pageFailEvent s iw pf)) := by
  simp [takeTrap, enterBy, State.scramble, h]

/-- An LUUO that ends in a terminal event. -/
theorem exec_luuo01_fault {a : AcNum} {e : AddrFields} {s : State} {r : Fault}
    (h : ∀ iw, luuoOp runWord 1 a e s.top (.start s (some iw)) = .error (.fault r)) : exec (.luuo01 a e) s = .fault r :=
  exec_fault (h _)

/-- Settles O58: the event of each is the one its mechanism reports. -/
theorem terminalTraps : Obligations.TerminalTraps := by
  intro a e s
  refine ⟨fun ea hea ht => ?muuo, fun ea hea hz ht => ?luuo, fun ea hea hz ht => ?luuo0, fun pf hea ht => ?pageFail⟩
  case muuo =>
    rw [exec_eq]
    exact (runTop_trap (muuoOp_top hea 0o104 a _)).trans (takeTrap_muuo_none ht)
  case luuo =>
    refine exec_luuo01_fault fun iw => ?_
    rw [luuoOp_sectionNonzero hea hz, luuoBlock, Mach.start_st, ht]
    rfl
  case luuo0 =>
    refine exec_luuo01_fault fun iw => ?_
    rw [luuoOp_sectionZero hea hz, luuo40, Mach.start_st, ht]
    rfl
  case pageFail =>
    have hb : bodyMove a e s.top (.start s (some (trapWord (.move a e)))) =
        .error (.trap (.pageFail pf) (.start s (some (trapWord (.move a e))))) := by
      simp only [bodyMove, instrEa_pageFail hea, Run.error_bind]
    have hop : opField (trapWord (.move a e)) = 0o200 := opField_instrWord ..
    have hac : acField (trapWord (.move a e)) = a := acField_instrWord ..
    rw [exec_eq]
    refine (runTop_trap hb).trans ((takeTrap_pageFail_none ht).trans ?_)
    rw [pageFailEvent, Option.map_some, hop, hac]
    rfl

/-! ## What the memo does not describe -/

theorem jrstUndescribed_refused {f : Frame} {m : Mach} {e : AddrFields} {ea : EA} (hea : instrEa .inapplicable e f m = .ok ea) :
    jrstUndescribed e f m = refuse .jrstFunctionNotDescribed := by
  simp only [jrstUndescribed, hea, Run.ok_bind]

theorem jrstPrivileged_refused {f : Frame} {m : Mach} {e : AddrFields} {ea : EA} (hea : instrEa .inapplicable e f m = .ok ea)
    (hm : m.st.mode = .exec) (fn : AcNum) : jrstPrivileged fn e f m = refuse .jrstFunctionNotDescribed := by
  simp only [jrstPrivileged, hea, Run.ok_bind, hm, reduceCtorEq, if_false]

theorem bodyIo_refused {f : Frame} {m : Mach} {r : BitVec 33} {ea : EA}
    (hea : instrEa .inapplicable (fieldsOf ((7 : BitVec 3) ++ r)) f m = .ok ea) (hm : m.st.mode = .exec) :
    bodyIo r f m = refuse .ioNotDescribed := by
  simp only [bodyIo, hea, Run.ok_bind, hm, reduceCtorEq, if_false]

/-- Settles O59: each refuses after its EA-calc, the privileged ones in exec mode. -/
theorem undescribedInstructionsStop : Obligations.UndescribedInstructionsStop := by
  refine ⟨fun e s ea hea => ⟨?portal, ?sfm, fun hm => ⟨?halt, ?xpcw, ?jrst10, ?jen⟩⟩, fun r s ea hea hm => ?io⟩
  case portal | sfm => exact exec_refused (jrstUndescribed_refused (instrEa_ok hea _ _))
  case halt | xpcw | jrst10 | jen => exact exec_refused (jrstPrivileged_refused (instrEa_ok hea _ _) hm _)
  case io => exact exec_refused (bodyIo_refused (instrEa_ok hea _ _) hm)

end Sys2Proof.Machine
end

section
/-! PROOFS. Chains of address words, and the jumps that restore the flags (spec/43_jumps.md R272, R273). -/

namespace Sys2Proof.Machine

/-! ## Chains (40_ea_calc.md R163) -/

/-- The loop follows a chain, a word of its fuel for each link. -/
theorem eaLoop_chains {s : State} {c : Ctx} {aw' : AddrWord} {sec' : Sec} {lw' : Word} (k n : Nat) :
    ∀ {aw : AddrWord} {sec : Sec} {lw : Word}, s.chains c n aw sec lw aw' sec' lw' →
      eaLoop s c (k + n) aw sec lw = eaLoop s c k aw' sec' lw' := by
  induction n with
  | zero =>
    rintro aw sec lw ⟨rfl, rfl, rfl⟩
    rfl
  | succ n ih =>
    rintro aw sec lw ⟨w, aw1, hi, hr, hc, hrest⟩
    exact (eaLoop_link hi hr hc (k + n) lw).trans (ih hrest)

/-- The address does not depend on the word before the first. -/
theorem eaLoop_lastWord {s : State} {c : Ctx} {n : Nat} {aw : AddrWord} {sec : Sec} {lw : Word} {r : EA × Word}
    (h : eaLoop s c n aw sec lw = .ok r) (lw' : Word) : ∃ w, eaLoop s c n aw sec lw' = .ok (r.1, w) := by
  cases n with
  | zero => cases h
  | succ n =>
    by_cases hi : aw.ind = true
    · refine ⟨r.2, ?_⟩
      rw [eaLoop, if_pos hi] at h ⊢
      exact h
    · rw [eaLoop_end (by simpa using hi)] at h ⊢
      exact ⟨_, by rw [← Except.ok.inj h]⟩

/-- A chain that ends gives the address of its last word, and the last word whose left half entered the calculation. -/
theorem eaLoop_chains_end {s : State} {c : Ctx} {n : Nat} {aw aw' : AddrWord} {sec sec' : Sec} {lw lw' : Word}
    (h : s.chains c n aw sec lw aw' sec' lw') (hn : n < eaFuel) (hi : aw'.ind = false) :
    eaLoop s c eaFuel aw sec lw = .ok (eaIter aw' sec' (s.xr aw'.idx c), if aw'.idx = 0 then lw' else s.xr aw'.idx c) := by
  obtain ⟨k, hk⟩ := Nat.exists_eq_add_of_lt hn
  rw [hk, show n + k + 1 = k + 1 + n by omega, eaLoop_chains _ _ h, eaLoop_end hi]

/-! ## Flag restores -/

section Restores

variable {f : Frame} {m : Mach} {e : AddrFields} {ea : EA} {w1 w2 : Word}

theorem bodyJrstf_restores {lw : Word} (hf : f.px = none) (hz : m.st.pcSec = 0)
    (hl : eaLoop m.st .cur eaFuel (.ifiw e) f.sec (m.st.implementedWord 0o254 2 e) = .ok (ea, lw)) :
    bodyJrstf e f m = .ok (m.restore (flagsField m.st.cfg.flagsLayout lw) ea.addr) := by
  have hg : f.guard .inapplicable = .ok () := by rw [Frame.guard, hf]
  have hz' : ¬(m.st.pcSec ≠ 0) := fun h => h hz
  simp only [bodyJrstf, hg, Run.ok_bind, hl, Mach.ea, if_neg hz', Run.pure_eq]

theorem bodyJrstf_muuo {lw : Word} (hf : f.px = none) (hz : m.st.pcSec ≠ 0)
    (hl : eaLoop m.st .cur eaFuel (.ifiw e) f.sec (m.st.implementedWord 0o254 2 e) = .ok (ea, lw)) :
    bodyJrstf e f m = .error (.trap (.muuo 0o254 2 ea) m) := by
  have hg : f.guard .inapplicable = .ok () := by rw [Frame.guard, hf]
  simp only [bodyJrstf, hg, Run.ok_bind, hl, Mach.ea, if_pos hz]

theorem readFlagsBlock_ok (h1 : m.st.memRead ea .cur = .ok w1) (hm : m.st.mayInc ea) (h2 : m.st.memRead (inc ea) .cur = .ok w2) :
    readFlagsBlock ea m = .ok (if m.st.cfg.flagsLayout.pcFirst then (w2, w1) else (w1, w2)) := by
  simp only [readFlagsBlock, Mach.read_memRead h1, Run.ok_bind, Mach.incRef_ok hm, Mach.read_memRead h2, Run.pure_eq]

theorem readFlagsBlock_refused (h1 : m.st.memRead ea .cur = .ok w1) (ht : m.st.topRefused ea) :
    readFlagsBlock ea m = refuse .addressTop := by
  simp only [readFlagsBlock, Mach.read_memRead h1, Run.ok_bind, Mach.incRef_refused ht]
  rfl

variable (hea : instrEa .inapplicable e f m = .ok ea)
include hea

theorem bodyXjrstf_ok {fw pw : Word} (hb : readFlagsBlock ea m = .ok (fw, pw)) :
    bodyXjrstf e f m = .ok (m.restore (flagsField m.st.cfg.flagsLayout fw) (addrOf pw)) := by
  simp only [bodyXjrstf, hea, Run.ok_bind, hb, Run.pure_eq]

theorem bodyXjrstf_refused {r : Refusal} (hb : readFlagsBlock ea m = refuse r) : bodyXjrstf e f m = refuse r := by
  simp only [bodyXjrstf, hea, Run.ok_bind, hb]
  rfl

theorem bodyXjen_ok {fw pw : Word} (hm : m.st.mode = .exec) (hx : m.st.cfg.xjen = .run) (hb : readFlagsBlock ea m = .ok (fw, pw)) :
    bodyXjen e f m = .ok (m.restore (flagsField m.st.cfg.flagsLayout fw) (addrOf pw)) := by
  simp only [bodyXjen, hea, Run.ok_bind, hm, hx, reduceCtorEq, if_false, hb, Run.pure_eq]

theorem bodyXjen_refused (hm : m.st.mode = .exec) (hx : m.st.cfg.xjen = .refuse) :
    bodyXjen e f m = refuse .jrstFunctionNotDescribed := by
  simp only [bodyXjen, hea, Run.ok_bind, hm, hx, reduceCtorEq, if_false, if_true]

end Restores

/-- JRSTF in section zero, from the last word of its chain (log 16). -/
theorem exec_jrstf_chain {e : AddrFields} {s : State} {n : Nat} {aw : AddrWord} {sec : Sec} {lw : Word} (hz : s.pcSec = 0)
    (hn : n < eaFuel) (h : s.chains .cur n (.ifiw e) 0 (s.implementedWord 0o254 2 e) aw sec lw) (hi : aw.ind = false) :
    exec (.jrstf e) s =
      .next (s.restored (if aw.idx = 0 then lw else s.x aw.idx) (eaIter aw sec (s.xr aw.idx .cur)).addr) := by
  have hl := eaLoop_chains_end h hn hi
  rw [← hz] at hl
  exact exec_ok (.jrstf e) s (bodyJrstf_restores (m := .start s _) rfl hz hl)

/-- The flags and PC words at E, in the order XJRSTF_BLOCK says (R273), restored. -/
theorem exec_flagsBlock {e : AddrFields} {s : State} {ea : EA} {fw pw : Word} (hea : s.eaOf e = .ok ea)
    (hb : ∀ iw, readFlagsBlock ea (.start s iw) = .ok (fw, pw)) :
    exec (.xjrstf e) s = .next (s.restored fw (addrOf pw)) ∧
      (s.mode = .exec → s.cfg.xjen = .run → exec (.xjen e) s = .next (s.restored fw (addrOf pw))) :=
  ⟨exec_ok (.xjrstf e) s (bodyXjrstf_ok (instrEa_ok hea _ _) (hb _)),
    fun hm hx => exec_ok (.xjen e) s (bodyXjen_ok (instrEa_ok hea _ _) hm hx (hb _))⟩

/-- Settles O38: JRSTF's EA-calc names the word its flags come from; the other two read theirs at E. -/
theorem flagJumps : Obligations.FlagJumps := by
  intro e s ea f w hea
  refine ⟨fun hz ht => ?muuo, fun n aw sec lw hz hn hch hi => ?chain, fun hz hi hx hr hi' hx' => ?indirect, fun hz hi hx => ?indexed,
    fun hz hi hx ho hj => ?plain, fun h1 hm h2 hp => ?flagsFirst, fun h1 hm h2 hp => ?pcFirst, fun ht h1 => ?top,
    fun hm hx => ?xjenRefused, fun hu ht => ?xjenUser⟩
  case muuo =>
    obtain ⟨lw, hl⟩ := State.eaCalc_eq_ok.1 hea
    obtain ⟨lw', hl'⟩ := eaLoop_lastWord hl (s.implementedWord 0o254 2 e)
    exact exec_muuo ht (bodyJrstf_muuo (m := .start s _) rfl hz hl')
  case chain =>
    rw [exec_jrstf_chain hz hn hch hi]
    obtain ⟨lw', hl⟩ := State.eaCalc_eq_ok.1 hea
    obtain ⟨lw'', hl'⟩ := eaLoop_lastWord hl (s.implementedWord 0o254 2 e)
    have hend := eaLoop_chains_end hch hn hi
    rw [← hz, hl'] at hend
    have haddr : ea = eaIter aw sec (s.xr aw.idx .cur) := congrArg Prod.fst (Except.ok.inj hend)
    rw [haddr]
  case indirect =>
    have hfirst : eaIter (.ifiw e) 0 (s.xr (AddrWord.ifiw e).idx .cur) = ⟨mkAddr 0 e.y, .loc⟩ := by simp only [eaIter, hx, if_true]
    have hch : s.chains .cur 1 (.ifiw e) 0 (s.implementedWord 0o254 2 e) (.ifiw (fieldsOf w)) 0 w := by
      refine ⟨w, .ifiw (fieldsOf w), hi, ?_, ?_, rfl, ?_, rfl⟩
      · rw [hfirst]
        exact hr
      · rw [hfirst, secOf_mkAddr, classify_zero]
      · rw [hfirst, secOf_mkAddr]
    rw [exec_jrstf_chain hz (by decide) hch hi']
    simp only [AddrWord.idx, eaIter, hx', if_true]
    rfl
  case indexed =>
    have hch : s.chains .cur 0 (.ifiw e) 0 (s.implementedWord 0o254 2 e) (.ifiw e) 0 _ := ⟨rfl, rfl, rfl⟩
    have hloc : localIndex 0 (s.xr e.x .cur) = true := (localIndex_iff ..).2 (.inl rfl)
    have hidx : (AddrWord.ifiw e).idx ≠ 0 := hx
    rw [exec_jrstf_chain hz (by decide) hch hi, if_neg hidx]
    simp only [AddrWord.idx, eaIter, if_neg hx, hloc, if_true]
    rfl
  case plain =>
    have hch : s.chains .cur 0 (.ifiw e) 0 (s.implementedWord 0o254 2 e) (.ifiw e) 0 _ := ⟨rfl, rfl, rfl⟩
    have hw : s.implementedWord 0o254 2 e = instrWord 0o254 2 e := by rw [State.implementedWord, implemented_default ho hj]
    rw [exec_jrstf_chain hz (by decide) hch hi]
    simp only [AddrWord.idx, eaIter, hx, if_true, hw]
  case flagsFirst => exact exec_flagsBlock hea fun iw => by rw [readFlagsBlock_ok (m := .start s iw) h1 hm h2, Mach.start_st, hp]; rfl
  case pcFirst => exact exec_flagsBlock hea fun iw => by rw [readFlagsBlock_ok (m := .start s iw) h1 hm h2, Mach.start_st, hp]; rfl
  case top => exact exec_refused (bodyXjrstf_refused (instrEa_ok hea _ _) (readFlagsBlock_refused (m := .start s _) h1 ht))
  case xjenRefused => exact exec_refused (bodyXjen_refused (instrEa_ok hea _ _) hm hx)
  case xjenUser => exact exec_muuo ht (bodyXjen_user hea hu _)

end Sys2Proof.Machine
end

section
/-! PROOFS. XCT and PXCT (spec/48_xct_pxct.md): what the executed instruction's frame is, and E in it. -/

namespace Sys2Proof.Machine

/-! ## The executed word -/

section Executed

variable {s : State} {e : AddrFields} {ea : EA} {w : Word} {i : Instr} (hea : s.eaOf e = .ok ea) (hw : s.memRead ea .cur = .ok w)
  (hi : decode (standardWord s.cfg.opcodes w) = i)
include hea hw hi

/-- XCT runs the body of the word at E in the section it was fetched from (R430, R434). -/
theorem bodyXct_runs (iw : Option Word) : bodyXct runWord e s.top (.start s iw) =
    bodyOf (execute (chainFuel - 1)) i ⟨secOf ea.addr, none⟩ (.start s (some (standardWord s.cfg.opcodes w))) := by
  have hr : (Mach.start s iw).read ea .cur = .ok w := Mach.read_memRead hw
  simp only [bodyXct, instrEa_ok hea, Run.ok_bind, hr, Mach.execute_decoded (m := .start s iw) hi]
  rfl

/-- So does PXCT in exec mode, under its control bits (R440). -/
theorem bodyPxct_runs (hm : s.mode = .exec) (n : AcNum) (iw : Option Word) : bodyPxct runWord n e s.top (.start s iw) =
    bodyOf (execute (chainFuel - 1)) i ⟨secOf ea.addr, some (pxOf n)⟩ (.start s (some (standardWord s.cfg.opcodes w))) := by
  have hr : (Mach.start s iw).read ea .cur = .ok w := Mach.read_memRead hw
  have hrul : (Mach.start s iw).ruling (s.mode == .user) .pxctInUserMode = .ok () := by
    rw [hm]
    exact Mach.ruling_false _ _
  have hexec : s.mode ≠ .user := by rw [hm]; decide
  simp only [bodyPxct, instrEa_ok hea, Run.ok_bind, Mach.start_st, hrul, hr, Mach.execute_decoded (m := .start s iw) hi,
    hexec, if_false]
  rfl

/-- In user mode, where the parameter lets it run, it is an XCT (log 30). -/
theorem bodyPxct_user (hm : s.mode = .user) (hr : s.cfg.rulings = .run) (n : AcNum) (iw : Option Word) :
    bodyPxct runWord n e s.top (.start s iw) =
      bodyOf (execute (chainFuel - 1)) i ⟨secOf ea.addr, none⟩ (.start s (some (standardWord s.cfg.opcodes w))) := by
  have hread : (Mach.start s iw).read ea .cur = .ok w := Mach.read_memRead hw
  have hrul : ∀ here, (Mach.start s iw).ruling here .pxctInUserMode = .ok () := fun here => Mach.ruling_run hr here _
  simp only [bodyPxct, instrEa_ok hea, Run.ok_bind, Mach.start_st, hrul, hread, Mach.execute_decoded (m := .start s iw) hi,
    if_true, hm]
  rfl

variable {m : Mach}

theorem exec_xct_ok (hb : bodyOf (execute (chainFuel - 1)) i ⟨secOf ea.addr, none⟩
    (.start s (some (standardWord s.cfg.opcodes w))) = .ok m) : exec (.xct e) s = .next m.st :=
  exec_ok (.xct e) s ((bodyXct_runs hea hw hi _).trans hb)

theorem exec_pxct_ok {n : AcNum} (hm : s.mode = .exec) (hb : bodyOf (execute (chainFuel - 1)) i ⟨secOf ea.addr, some (pxOf n)⟩
    (.start s (some (standardWord s.cfg.opcodes w))) = .ok m) : exec (.pxct n e) s = .next m.st :=
  exec_ok (.pxct n e) s ((bodyPxct_runs hea hw hi hm n _).trans hb)

theorem exec_pxct_refused {n : AcNum} {r : Refusal} (hm : s.mode = .exec) (hb : bodyOf (execute (chainFuel - 1)) i
    ⟨secOf ea.addr, some (pxOf n)⟩ (.start s (some (standardWord s.cfg.opcodes w))) = refuse r) : exec (.pxct n e) s = .refused r :=
  exec_refused ((bodyPxct_runs hea hw hi hm n _).trans hb)

/-- A page fail of the executed instruction is taken from the state as it was. -/
theorem exec_pxct_pageFail {n : AcNum} {pf : PageFail} (hm : s.mode = .exec) (ht : s.cfg.traps.pageFail = some .pageFailSketch)
    (hb : bodyOf (execute (chainFuel - 1)) i ⟨secOf ea.addr, some (pxOf n)⟩ (.start s (some (standardWord s.cfg.opcodes w))) =
      .error (.trap (.pageFail pf) (.start s (some (standardWord s.cfg.opcodes w))))) :
    exec (.pxct n e) s = .next (s.enterPageFail pf) := by
  rw [exec_eq]
  exact (runTop_trap ((bodyPxct_runs hea hw hi hm n _).trans hb)).trans (takeTrap_pageFail ht)

end Executed

/-! ## E of the executed word (R434, R446, R448) -/

/-- Under XCT, the EA-calc starts in the section of the word. -/
theorem instrEa_xct {k : PxClass} {e : AddrFields} {sec : Sec} {m : Mach} {ea : EA} (h : m.st.eaCalc (.ifiw e) sec .cur = .ok ea) :
    instrEa k e ⟨sec, none⟩ m = .ok ea := by
  have hg : Frame.guard ⟨sec, none⟩ k = .ok () := rfl
  have hb : k.bits (Frame.bits ⟨sec, none⟩) = (false, false) := PxClass.bits_clear k
  rw [instrEa, hg, Run.ok_bind, hb, State.pxEaCalc_clear, h]
  rfl

/-- Under the bits of a PXCT that its class admits, it is the PXCT form of the EA-calc. -/
theorem instrEa_pxct {k : PxClass} {p : Px} (h : k.legal p = true) (e : AddrFields) (sec : Sec) (m : Mach) :
    instrEa k e ⟨sec, some p⟩ m = m.ea (m.st.pxEaCalc (.ifiw e) sec (k.bits p).1 (k.bits p).2) := by
  have hk : k ≠ .inapplicable := by rintro rfl; cases h
  have hg : Frame.guard ⟨sec, some p⟩ k = .ok () := (if_neg hk).trans (if_pos h)
  rw [instrEa, hg]
  rfl

/-- Other bits are refused (log 31). -/
theorem instrEa_illegal {k : PxClass} {p : Px} (hk : k ≠ .inapplicable) (h : k.legal p = false) (e : AddrFields) (sec : Sec)
    (m : Mach) : instrEa k e ⟨sec, some p⟩ m = refuse .pxctIllegalBits := by
  have hg : Frame.guard ⟨sec, some p⟩ k = refuse .pxctIllegalBits :=
    (if_neg hk).trans (if_neg (by simp [h]))
  rw [instrEa, hg]
  rfl

theorem instrEa_inapplicable (p : Px) (e : AddrFields) (sec : Sec) (m : Mach) :
    instrEa .inapplicable e ⟨sec, some p⟩ m = refuse .pxctInapplicable := rfl

/-- An E bit moves the whole EA-calc to the previous context. -/
theorem State.pxEaCalc_prev (s : State) (aw : AddrWord) (sec : Sec) (db : Bool) :
    s.pxEaCalc aw sec true db = s.eaCalc aw s.pcs .prev := by
  unfold State.pxEaCalc pxSec
  cases h : s.eaCalc aw s.pcs .prev <;> simp [h, pxPost]

/-- A D bit alone gives a local result the previous section. -/
theorem State.pxEaCalc_toPrev {s : State} {aw : AddrWord} {sec : Sec} {ea : EA} (h : s.eaCalc aw sec .cur = .ok ea) :
    s.pxEaCalc aw sec false true = .ok (s.toPrev ea) := by
  have h' : s.eaCalc aw (pxSec s sec false) (ctxOf false) = .ok ea := h
  rw [State.pxEaCalc, h']
  simp [pxPost, State.toPrev]

/-- E of an instruction that a PXCT 4 or 14 executes: computed in current context for a reference in previous context, or computed in
previous context. -/
def State.pxRef (s : State) (n : AcNum) (sec : Sec) (e : AddrFields) (ref : EA) : Prop :=
  (n = 4 ∧ ∃ ea, s.eaCalc (.ifiw e) sec .cur = .ok ea ∧ ref = s.toPrev ea) ∨ (n = 0o14 ∧ s.eaCalc (.ifiw e) s.pcs .prev = .ok ref)

theorem instrEa_pxRef {s : State} {n : AcNum} {sec : Sec} {e : AddrFields} {ref : EA} (h : s.pxRef n sec e ref) {k : PxClass}
    (hk : k = .general ∨ k = .stack) (iw : Option Word) : instrEa k e ⟨sec, some (pxOf n)⟩ (.start s iw) = .ok ref := by
  rcases h with ⟨rfl, ea, hea, rfl⟩ | ⟨rfl, href⟩
  · have hbits : k.legal (pxOf 4) = true ∧ k.bits (pxOf 4) = (false, true) := by rcases hk with rfl | rfl <;> decide
    rw [instrEa_pxct hbits.1, hbits.2, Mach.start_st, State.pxEaCalc_toPrev hea]
    rfl
  · have hbits : k.legal (pxOf 0o14) = true ∧ k.bits (pxOf 0o14) = (true, true) := by rcases hk with rfl | rfl <;> decide
    rw [instrEa_pxct hbits.1, hbits.2, Mach.start_st, State.pxEaCalc_prev, href]
    rfl

/-- The data reference is then in previous context (R450). -/
theorem State.pxRef.dataCtx {s : State} {n : AcNum} {sec : Sec} {e : AddrFields} {ref : EA} (h : s.pxRef n sec e ref) :
    Frame.dataCtx ⟨sec, some (pxOf n)⟩ = .prev := by
  rcases h with ⟨rfl, -⟩ | ⟨rfl, -⟩ <;> rfl

/-! ## The claims -/

/-- Settles O49: the bodies of MOVE, SKIPA, JSP and JRST in XCT's frame. -/
theorem xctRuns : Obligations.XctRuns := by
  intro e e' a s ea ea' w hea hw hea'
  refine ⟨fun l hi hl => ?move, fun l hi ha hl => ?skipa, fun hi => ?jsp, fun hi => ?jrst⟩
  case move => exact exec_xct_ok hea hw hi (bodyMove_ok (m := .start s _) (instrEa_xct hea') hl a)
  case skipa => exact exec_xct_ok hea hw hi (bodySkipa_ok (m := .start s _) (instrEa_xct hea') hl ha)
  case jsp => exact exec_xct_ok hea hw hi (bodyJsp_ok (m := .start s _) (instrEa_xct hea') a)
  case jrst => exact exec_xct_ok hea hw hi (bodyJrst_ok (m := .start s _) (instrEa_xct hea'))

/-- Settles O50: each body in PXCT's frame, where the reference to E is in previous context and AC and stack references are not. -/
theorem pxctMoves : Obligations.PxctMoves := by
  refine ⟨fun e e' a s ea ea' w l hm hea hw => ⟨fun hcur => ?four, fun hprev => ?fourteen⟩,
    fun e e' a s ea ea' ref w n le lt hm hea hw hn => ?stack, fun e e' a s ea ea' w hm hea hw hprev => ?ten⟩
  case four =>
    have href : s.pxRef 4 (secOf ea.addr) e' (s.toPrev ea') := .inl ⟨rfl, ea', hcur, rfl⟩
    exact ⟨fun hi hl => exec_pxct_ok hea hw hi hm (bodyMove_ok (instrEa_pxRef href (.inl rfl) _) hl a),
      fun hi hl => exec_pxct_ok hea hw hi hm (bodyMovem_ok (instrEa_pxRef href (.inl rfl) _) hl a)⟩
  case fourteen =>
    have href : s.pxRef 0o14 (secOf ea.addr) e' ea' := .inr ⟨rfl, hprev⟩
    exact ⟨fun hi hl => exec_pxct_ok hea hw hi hm (bodyMove_ok (instrEa_pxRef href (.inl rfl) _) hl a),
      fun hi hl => exec_pxct_ok hea hw hi hm (bodyMovem_ok (instrEa_pxRef href (.inl rfl) _) hl a)⟩
  case stack =>
    have href : s.pxRef n (secOf ea.addr) e' ref := by
      rcases hn with ⟨rfl, hcur, rfl⟩ | ⟨rfl, hprev, rfl⟩
      · exact .inl ⟨rfl, ea', hcur, rfl⟩
      · exact .inr ⟨rfl, hprev⟩
    rw [← href.dataCtx]
    refine ⟨fun hi hstep hle hlt => ?push, fun hi hcount hle hlt => ?pop, fun hi => ?map⟩
    case push =>
      exact exec_pxct_ok hea hw hi hm (bodyPush_ok (m := .start s _) (instrEa_pxRef href (.inr rfl) _) hstep hle hlt)
    case pop =>
      exact exec_pxct_ok hea hw hi hm (bodyPop_ok (m := .start s _) (instrEa_pxRef href (.inr rfl) _) hcount hlt hle)
    case map => exact exec_pxct_ok hea hw hi hm (bodyMap_ok (instrEa_pxRef href (.inl rfl) _) a)
  case ten =>
    have hE : ∀ iw, instrEa .immediate e' ⟨secOf ea.addr, some (pxOf 0o10)⟩ (.start s iw) = .ok ea' := fun iw => by
      have hbits : PxClass.immediate.legal (pxOf 0o10) = true ∧ PxClass.immediate.bits (pxOf 0o10) = (true, false) := by decide
      rw [instrEa_pxct hbits.1, hbits.2, Mach.start_st, State.pxEaCalc_prev, hprev]
      rfl
    exact ⟨fun hi => exec_pxct_ok hea hw hi hm (bodyXmovei_ok (hE _) a), fun hi => exec_pxct_ok hea hw hi hm (bodyMovei_ok (hE _) a)⟩

/-- Under any PXCT, a meaning that asks for E as one that may not be executed refuses. -/
theorem refused_of_inapplicable {b : Body} {e : AddrFields} {g : Frame → Mach → EA → Run Mach}
    (h : ∀ f m, b f m = instrEa .inapplicable e f m >>= g f m) (p : Px) (sec : Sec) (m : Mach) :
    b ⟨sec, some p⟩ m = refuse .pxctInapplicable := by
  rw [h, instrEa_inapplicable]
  rfl

/-- Settles O52: the class of each body's E decides in exec mode, the parameter in user mode. -/
theorem pxctRefusals : Obligations.PxctRefusals := by
  refine ⟨fun e e' n a s ea w hm hea hw => ⟨fun hi h4 h14 => ?bits, fun hi => ?inapplicable⟩,
    fun e e' n a s ea ea' w l hm hea hw hi hea' hl hr => ?userRun, fun e n s ea hm hea hr => ?userRefused⟩
  case bits =>
    have hbad : PxClass.general.legal (pxOf n) = false := by
      by_contra hl
      rcases (pxctLegalValues.1 n).1 (by simpa using hl) with rfl | rfl
      · exact h4 rfl
      · exact h14 rfl
    refine exec_pxct_refused hea hw hi hm ?_
    have hE := instrEa_illegal (k := .general) (by decide) hbad e' (secOf ea.addr) (.start s (some (standardWord s.cfg.opcodes w)))
    simp only [bodyOf, bodyMove, hE]
    rfl
  case inapplicable =>
    rcases hi with hi | hi | hi | hi | hi
    · exact exec_pxct_refused hea hw hi hm (refused_of_inapplicable (b := bodyJrst e') (fun _ _ => rfl) ..)
    · exact exec_pxct_refused hea hw hi hm (refused_of_inapplicable (b := bodyPushj a e') (fun _ _ => rfl) ..)
    · exact exec_pxct_refused hea hw hi hm (refused_of_inapplicable (b := bodyLsh a e') (fun _ _ => rfl) ..)
    · exact exec_pxct_refused hea hw hi hm (refused_of_inapplicable (b := bodyXct _ e') (fun _ _ => rfl) ..)
    · exact exec_pxct_refused hea hw hi hm (refused_of_inapplicable (b := bodyJsys a e') (fun _ _ => rfl) ..)
  case userRun =>
    exact exec_ok (.pxct n e) s ((bodyPxct_user hea hw hi hm hr n _).trans (bodyMove_ok (m := .start s _) (instrEa_xct hea') hl a))
  case userRefused =>
    have hrul : ∀ iw, (Mach.start s iw).ruling (s.mode == .user) .pxctInUserMode = refuse .pxctInUserMode := fun iw => by
      rw [hm]
      exact Mach.ruling_refuse hr _
    refine exec_refused ?_
    simp only [bodyOf, bodyPxct, instrEa_ok hea, Run.ok_bind, Mach.start_st, hrul]
    rfl

end Sys2Proof.Machine
end

section
/-! PROOFS. Illegal indirect words (spec/40_ea_calc.md R158), at PC and under PXCT. -/

namespace Sys2Proof.Machine

/-- A word met in a non-zero section with bits 0 and 1 set is no address word. -/
theorem classify_illegal {w : Word} {sec : Sec} (hs : sec ≠ 0) (h0 : bitAt w 0 = true) (h1 : bitAt w 1 = true) :
    classify w sec = none := by
  rw [classify, if_neg hs, if_neg (by simp [h0]), if_neg (by simp [h1])]

/-- The word before the first of a chain matters only to a chain without links. -/
theorem State.chains_lastWord {s : State} {c : Ctx} {n : Nat} {aw aw' : AddrWord} {sec sec' : Sec} {lw lw' : Word}
    (h : s.chains c n aw sec lw aw' sec' lw') (lw0 : Word) : ∃ w, s.chains c n aw sec lw0 aw' sec' w := by
  cases n with
  | zero =>
    obtain ⟨rfl, rfl, -⟩ := h
    exact ⟨lw0, rfl, rfl, rfl⟩
  | succ n => exact ⟨lw', h⟩

/-- A chain to an illegal word ends in the page fail of its reference. -/
theorem State.eaCalc_illegal {s : State} {c : Ctx} {n : Nat} {aw aw' : AddrWord} {sec sec' : Sec} {lw lw' : Word} (hn : n < eaFuel)
    (h : s.chains c n aw sec lw aw' sec' lw') (hill : s.meetsIllegal c aw' sec') :
    s.eaCalc aw sec c = .error (.pageFail ⟨eaIter aw' sec' (s.xr aw'.idx c), c, .illegalIndirect⟩) := by
  obtain ⟨hi, hs, w, hr, h0, h1⟩ := hill
  obtain ⟨w', h'⟩ := State.chains_lastWord h 0
  obtain ⟨k, hk⟩ := Nat.exists_eq_add_of_lt hn
  have hl : eaLoop s c eaFuel aw sec 0 = .error (.pageFail ⟨eaIter aw' sec' (s.xr aw'.idx c), c, .illegalIndirect⟩) := by
    rw [hk, show n + k + 1 = k + 1 + n by omega, eaLoop_chains _ _ h', eaLoop_illegal hi hr (classify_illegal hs h0 h1)]
  rw [State.eaCalc, hl]

/-- The illegal second word of a two-word pointer is reported where it was fetched (log 39). -/
theorem bodyLdb_illegal {a : AcNum} {e : AddrFields} {f : Frame} {m : Mach} {ea : EA} {w1 w2 : Word}
    (hp : fetchPointer e f m = .ok ⟨ea, .twoGlobal, w1, w2⟩) (hs : pxSec m.st (secOf (inc ea).addr) f.bits.e2 ≠ 0)
    (h0 : bitAt w2 0 = true) (h1 : bitAt w2 1 = true) :
    bodyLdb a e f m = .error (.trap (.pageFail ⟨inc ea, f.dataCtx, .illegalIndirect⟩) m) := by
  have hb : byteAddress ⟨ea, .twoGlobal, w1, w2⟩ f m = .error (.trap (.pageFail ⟨inc ea, f.dataCtx, .illegalIndirect⟩) m) := by
    simp only [byteAddress, bpAddress, if_true, classify_illegal hs h0 h1]
  have hf : bpFields m.st.cfg .twoGlobal w1 = .ok ((bpP w1).toNat, (bpS w1).toNat) := rfl
  simp only [bodyLdb, hp, Run.ok_bind, loadByte, hf, hb, Run.error_bind]

/-- Settles O17: the chain leads to the word's page fail, which ends the body before it does anything. -/
theorem illegalIndirectWord : Obligations.IllegalIndirectWord := by
  refine ⟨fun s c n aw aw' sec sec' lw lw' hn h hill => State.eaCalc_illegal hn h hill,
    fun s a e n aw' sec' lw lw' hn h hill ht => ?move, fun s a e e' ea w n aw' sec' lw lw' hn hm hea hw hi h hill ht => ?pxctMove,
    fun s a e ea w1 w2 hea h1 hk hmay h2 hs hb0 hb1 ht => ?ldb,
    fun s a e e' ea ea' w w1 w2 hm hea hw hi hea' h1 hk hmay h2 hs hb0 hb1 ht => ?pxctLdb, classify_zero⟩
  case move =>
    have hea : s.eaOf e = .error _ := State.eaCalc_illegal hn h hill
    exact eaPageFailTaken .move (by simp) a e s _ hea ht
  case pxctMove =>
    refine exec_pxct_pageFail hea hw hi hm ht ?_
    have hE : ∀ iw, instrEa .general e' ⟨secOf ea.addr, some (pxOf 0o14)⟩ (.start s iw) = .error (.trap _ (.start s iw)) := fun iw => by
      rw [instrEa_pxct (by decide)]
      exact congrArg (Mach.start s iw).ea ((State.pxEaCalc_prev ..).trans (State.eaCalc_illegal hn h hill))
    simp only [bodyOf, bodyMove, hE, Run.error_bind]
  case ldb =>
    exact exec_pageFail ht (bodyLdb_illegal (m := .start s _) (fetchPointer_two (m := .start s _) (instrEa_ok hea _ _) h1 hk hmay h2) hs hb0 hb1)
  case pxctLdb =>
    have hE : ∀ iw, instrEa .byte e' ⟨secOf ea.addr, some (pxOf 3)⟩ (.start s iw) = .ok ea' := fun iw => by
      have hbits : PxClass.byte.legal (pxOf 3) = true ∧ PxClass.byte.bits (pxOf 3) = (false, false) := by decide
      rw [instrEa_pxct hbits.1, hbits.2, Mach.start_st, State.pxEaCalc_clear, hea']
      rfl
    exact exec_pxct_pageFail hea hw hi hm ht
      (bodyLdb_illegal (m := .start s _) (fetchPointer_two (m := .start s _) (hE _) h1 hk hmay h2) hs hb0 hb1)

end Sys2Proof.Machine
end

section
/-! PROOFS. What the entry of an MUUO or a page fail leaves (spec/60_exceptions.md R485 to R493): its words in physical memory, the new
PC and the context change. -/

namespace Sys2Proof.Machine

/-! ## Entries in physical words -/

/-- Words stored one by one in physical words are stored in a block addressed physically. -/
theorem State.storeInBlock_physical (base : Word) (ws : List (Nat × Word)) :
    ∀ s : State, s.storeInBlock none base ws = some (s.putCells base.toNat ws) := by
  induction ws with
  | nil => exact fun _ => rfl
  | cons w ws ih => exact fun s => ih (s.put (.cell (base.toNat + w.1)) w.2)

theorem State.SameRegs.putCells (base : Nat) (ws : List (Nat × Word)) : ∀ s : State, s.SameRegs (s.putCells base ws) := by
  induction ws with
  | nil => exact fun _ => ⟨rfl⟩
  | cons w ws ih => exact fun s => (State.SameRegs.put s _ _).trans (ih _)

/-- The entry `t` of an event that stores `ws` from `base` on and takes the new PC from physical word `n`. -/
def State.entryAt (s : State) (base : Nat) (ws : List (Nat × Word)) (n : Nat) : State :=
  (s.putCells base ws).changeContext (addrOf (Memory.read (s.putCells base ws).mem n))

theorem State.enter_physical {s : State} {en : TrapEntry} {t : Table} (h : s.entersPhysically en t) (d : TrapData) :
    s.enter en t d = some (s.entryAt (s.blockBase en.base t).2.toNat (s.trapWords d en.words)
      ((s.blockBase en.newPc.base t).2.toNat + s.newPcNumber en.newPc)) := by
  obtain ⟨hbase, hpc, -⟩ := h
  simp only [State.enter, hbase, hpc, State.storeInBlock_physical, State.blockPlace, Option.map_some]
  rfl

/-- What it leaves: the words, the PC, exec mode, the flags and the context of an event, and every AC (R490). -/
theorem State.enteredAt_entryAt {s : State} (hwf : Memory.wf s.mem = true) (base : Nat) {ws : List (Nat × Word)}
    (hn : (ws.map Prod.fst).Nodup) (n : Nat) : s.enteredAt (s.entryAt base ws n) base ws n := by
  obtain ⟨-, -, -, hacs⟩ := State.putCells_frame base ws s
  obtain ⟨hcontext, hmode, huser, hio⟩ := (State.SameRegs.putCells base ws s).changeContext (addrOf (Memory.read (s.putCells base ws).mem n))
  exact ⟨State.storedAt_putCells base ws hn s hwf, rfl, hmode, huser, hio, hcontext, hacs⟩

theorem trapWords_apart {s : State} {d : TrapData} {ws : List TrapWord} (h : apart ws) : ((s.trapWords d ws).map Prod.fst).Nodup := by
  simpa [State.trapWords, Function.comp_def] using h

/-! ## The events -/

theorem takeTrap_muuo_enter {s t : State} {iw : Option Word} {op : BitVec 9} {a : AcNum} {e : EA} {en : TrapEntry}
    (h : s.cfg.traps.muuo = some en) (ht : s.enter en .upt (s.muuoData op a e) = some t) :
    takeTrap (.muuo op a e) (.start s iw) = .next t := by
  simp [takeTrap, enterBy, State.scramble, h, ht]

theorem takeTrap_pageFail_enter {s t : State} {iw : Option Word} {pf : PageFail} {en : TrapEntry}
    (h : s.cfg.traps.pageFail = some en) (ht : s.enter en (s.pageFailTable pf) (s.pageFailData iw pf) = some t) :
    takeTrap (.pageFail pf) (.start s iw) = .next t := by
  simp [takeTrap, enterBy, State.scramble, h, ht]

/-- The words of the sketch of an MUUO (R488). -/
def State.muuoWords (s : State) (op : BitVec 9) (a : AcNum) (ea : EA) : List (Nat × Word) :=
  [(0o424, s.flagsAndOpcode op a), (0o425, wordOfAddr (s.pcPlus 1)), (0o426, wordOfAddr (convE ea)),
    (0o427, Config.processContextWord s.cab s.pab s.pcs)]

theorem State.enterMuuo_eq (s : State) (op : BitVec 9) (a : AcNum) (ea : EA) :
    s.enterMuuo op a ea = s.entryAt s.upt.toNat (s.muuoWords op a ea)
      (s.upt.toNat + (0o430 + (if s.mode = .user then 4 else 0) + (if publicFlag s.flags then 2 else 0))) := rfl

/-- The words of the sketch of a page fail (R486). -/
def State.pageFailWords (s : State) (pf : PageFail) : List (Nat × Word) :=
  [(0o500, BitVec.ofBool (s.space pf.ctx == .user) ++ Config.pageFailCode s.freeCtr ++ convE pf.ref),
    (0o501, flagsPC s.cfg.flagsLayout s.flags 0), (0o502, wordOfAddr s.pc)]

theorem State.enterPageFail_eq (s : State) (pf : PageFail) :
    s.enterPageFail pf = s.entryAt s.upt.toNat (s.pageFailWords pf) (s.upt.toNat + 0o503) := rfl

/-- Settles O56: the entry's words are stored apart, and the new PC's word is none of them in the sketch. -/
theorem muuoEntry : Obligations.MuuoEntry := by
  refine ⟨fun s op a ea hwf => ?sketch, fun s op a ho hj hl => ?firstWord, fun s a e ea en hwf hea hen hphys => ?layout⟩
  case sketch =>
    obtain ⟨⟨hwords, hframe⟩, hpc, hrest⟩ := State.enteredAt_entryAt hwf s.upt.toNat (ws := s.muuoWords op a ea) (by simp [State.muuoWords])
      (s.upt.toNat + (0o430 + (if s.mode = .user then 4 else 0) + (if publicFlag s.flags then 2 else 0)))
    rw [← State.enterMuuo_eq] at hwords hframe hpc hrest
    simp only [State.muuoWords, List.forall_mem_cons] at hwords hframe
    obtain ⟨h424, h425, h426, h427, -⟩ := hwords
    have hother : ∀ p, p < s.upt.toNat + 0o424 ∨ s.upt.toNat + 0o427 < p →
        Memory.read (s.enterMuuo op a ea).mem p = Memory.read s.mem p := fun p hp =>
      hframe p ⟨by omega, by omega, by omega, by omega, List.forall_mem_nil _⟩
    refine ⟨h424, h425, h426, h427, hother, ?_, hrest⟩
    rw [hpc, hother _ (.inr (by omega))]
    simp only [Nat.add_assoc]
  case firstWord =>
    simp only [State.flagsAndOpcode, implemented_default ho hj, hl, flagsPC_standard]
  case layout =>
    refine ⟨_, ?_, State.enteredAt_entryAt hwf _ (trapWords_apart hphys.2.2) _⟩
    rw [exec_eq]
    exact (runTop_trap (muuoOp_top hea 0o104 a _)).trans (takeTrap_muuo_enter hen (State.enter_physical hphys _))

/-- Settles O57: the same of a page fail, whose data name the instruction the word at PC is. -/
theorem pageFailEntry : Obligations.PageFailEntry := by
  refine ⟨fun s pf hwf => ?sketch, fun s a e pf en hwf hea hen hphys => ?layout⟩
  case sketch =>
    obtain ⟨⟨hwords, hframe⟩, hpc, hrest⟩ := State.enteredAt_entryAt hwf s.upt.toNat (ws := s.pageFailWords pf)
      (by simp [State.pageFailWords]) (s.upt.toNat + 0o503)
    rw [← State.enterPageFail_eq] at hwords hframe hpc hrest
    simp only [State.pageFailWords, List.forall_mem_cons] at hwords hframe
    obtain ⟨h500, h501, h502, -⟩ := hwords
    have hother : ∀ p, p < s.upt.toNat + 0o500 ∨ s.upt.toNat + 0o502 < p →
        Memory.read (s.enterPageFail pf).mem p = Memory.read s.mem p := fun p hp =>
      hframe p ⟨by omega, by omega, by omega, List.forall_mem_nil _⟩
    refine ⟨⟨_, h500⟩, h501, h502, hother, ?_, hrest⟩
    rw [hpc, hother _ (.inr (by omega))]
  case layout =>
    refine ⟨_, ?_, State.enteredAt_entryAt hwf _ (trapWords_apart hphys.2.2) _⟩
    have hb : bodyMove a e s.top (.start s (some (trapWord (.move a e)))) =
        .error (.trap (.pageFail pf) (.start s (some (trapWord (.move a e))))) :=
      EaFirst.of_bind (b := bodyMove a e) (fun _ _ => rfl) s pf _ hea
    rw [exec_eq]
    exact (runTop_trap hb).trans (takeTrap_pageFail_enter hen (State.enter_physical hphys _))

end Sys2Proof.Machine
end

section
/-! PROOFS. BLT and XBLT (spec/46_blt_xblt.md) in any frame: their loops are the copies of words the claims speak of. -/

namespace Sys2Proof.Machine

/-! ## Copies -/

theorem State.SameRegs.locate {s t : State} (h : s.SameRegs t) (e : EA) (c : Ctx) (acc : Access) :
    t.locate e c acc = s.locate e c acc := by
  rw [h.regs]
  exact State.locate_congr rfl rfl rfl rfl rfl e c acc

theorem State.SameRegs.cab {s t : State} (h : s.SameRegs t) : t.cab = s.cab := by rw [h.regs]

theorem State.SameRegs.cfg {s t : State} (h : s.SameRegs t) : t.cfg = s.cfg := by rw [h.regs]

/-- A read of `memRead` names the place it reads. -/
theorem State.memRead_eq_ok {s : State} {e : EA} {c : Ctx} {v : Word} :
    s.memRead e c = .ok v ↔ ∃ l, s.locate e c .read = .ok l ∧ v = s.get l := by
  unfold State.memRead
  cases h : s.locate e c .read with
  | ok l => exact ⟨fun he => ⟨l, rfl, (Except.ok.inj he).symm⟩, fun ⟨_, hl, hv⟩ => by rw [Except.ok.inj hl, hv]⟩
  | error pf => exact ⟨fun he => (nomatch he), fun ⟨_, hl, _⟩ => (nomatch hl)⟩

/-- One word of a copy. -/
theorem State.copy_succ {cs cd : Ctx} {next : EA → EA} {n : Nat} {src dst : EA} {s t : State} :
    s.copy cs cd next (n + 1) src dst = .ok t ↔ ∃ ls ld, s.locate src cs .read = .ok ls ∧ s.locate dst cd .write = .ok ld ∧
      (s.put ld (s.get ls)).copy cs cd next n (next src) (next dst) = .ok t := by
  rw [State.copy]
  constructor
  · intro h
    cases hr : s.memRead src cs with
    | error pf => rw [hr] at h; cases h
    | ok v =>
      cases hw : s.memWrite dst cd v with
      | error pf => rw [hr] at h; simp only [hw] at h; cases h
      | ok u =>
        rw [hr] at h
        simp only [hw] at h
        obtain ⟨ls, hls, rfl⟩ := State.memRead_eq_ok.1 hr
        obtain ⟨ld, hld, rfl⟩ := State.memWrite_eq_ok.1 hw
        exact ⟨ls, ld, hls, hld, h⟩
  · rintro ⟨ls, ld, hls, hld, h⟩
    simp only [State.memRead_eq_ok.2 ⟨ls, hls, rfl⟩, State.memWrite_eq_ok.2 ⟨ld, hld, rfl⟩, h]

/-- A copy changes ACs and memory alone. -/
theorem State.copy_sameRegs {cs cd : Ctx} {next : EA → EA} (n : Nat) : ∀ {src dst : EA} {s t : State},
    s.copy cs cd next n src dst = .ok t → s.SameRegs t := by
  induction n with
  | zero =>
    intro src dst s t h
    rw [← Except.ok.inj h]
    exact ⟨rfl⟩
  | succ n ih =>
    intro src dst s t h
    obtain ⟨ls, ld, -, -, h⟩ := State.copy_succ.1 h
    exact (State.SameRegs.put s ld _).trans (ih h)

/-! ## BLT (R361 to R368) -/

/-- The loop of a BLT is a copy within a section. -/
theorem bltLoop_ok {cs cd : Ctx} (n : Nat) : ∀ {src dst : EA} {m : Mach} {t : State},
    m.st.copy cs cd incLocal n src dst = .ok t → ∃ m', bltLoop cs cd n src dst m = .ok m' ∧ m'.st = t := by
  induction n with
  | zero => exact fun h => ⟨_, rfl, Except.ok.inj h⟩
  | succ n ih =>
    intro src dst m t h
    obtain ⟨ls, ld, hls, hld, h⟩ := State.copy_succ.1 h
    obtain ⟨m', hm', ht⟩ := ih (m := m.put ld (m.st.get ls)) h
    exact ⟨m', by simp only [bltLoop, Mach.read_ok hls, Run.ok_bind, Mach.write_ok hld, hm'], ht⟩

section Blt

variable {f : Frame} {m : Mach} {e : AddrFields} {ea : EA} {a : AcNum} {t : State}

/-- A BLT that moves its words is then refused where the last of them was AC A, and else leaves that a free value (R367; log 23). -/
theorem bodyBlt_moves {n : Nat} (hea : instrEa .blt e f m = .ok ea)
    (hr : m.ruling ((offOf ea.addr).ult (rh (m.x a))) .bltAboveE = .ok ())
    (hn : bltCount (rh (m.x a)) (offOf ea.addr) (bitAt m.fresh 35) = n)
    (hc : (m.st.draw 1).copy (ctxOf f.bits.d2) f.dataCtx incLocal n ⟨mkAddr (secOf ea.addr) (lh (m.x a)), ea.flag⟩
      ⟨mkAddr (secOf ea.addr) (rh (m.x a)), ea.flag⟩ = .ok t) :
    ∃ m' : Mach, m'.st = t ∧ bodyBlt a e f m =
      (m'.ruling (m'.writes ea f.dataCtx (.ac m'.st.cab a)) .bltOwnAc >>= fun _ => .ok ((m'.setFree a).advance 1)) := by
  obtain ⟨m', hm', ht⟩ := bltLoop_ok (m := m.drawn) n hc
  refine ⟨m', ht, ?_⟩
  simp only [bodyBlt, hea, Run.ok_bind, hr, hn, hm', Run.pure_eq]

/-- The place of the last word does not depend on the words moved. -/
theorem writes_iff {m' : Mach} {c : Ctx} (h : m.st.SameRegs m'.st) :
    m'.writes ea c (.ac m'.st.cab a) = true ↔ m.st.locate ea c .write = .ok (.ac m.st.cab a) := by
  rw [Mach.writes, h.locate, h.cab]
  cases m.st.locate ea c .write with
  | ok l => simp
  | error pf => simp

theorem bodyBlt_ok {n : Nat} (hea : instrEa .blt e f m = .ok ea)
    (hr : m.ruling ((offOf ea.addr).ult (rh (m.x a))) .bltAboveE = .ok ())
    (hn : bltCount (rh (m.x a)) (offOf ea.addr) (bitAt m.fresh 35) = n)
    (hc : (m.st.draw 1).copy (ctxOf f.bits.d2) f.dataCtx incLocal n ⟨mkAddr (secOf ea.addr) (lh (m.x a)), ea.flag⟩
      ⟨mkAddr (secOf ea.addr) (rh (m.x a)), ea.flag⟩ = .ok t)
    (hown : m.st.cfg.rulings = .run ∨ m.st.locate ea f.dataCtx .write ≠ .ok (.ac m.st.cab a)) :
    ∃ m', bodyBlt a e f m = .ok m' ∧ m'.st = (t.setFree a).nextPc := by
  have hsame : m.st.SameRegs t := State.SameRegs.trans ⟨rfl⟩ (State.copy_sameRegs n hc)
  obtain ⟨m', rfl, hb⟩ := bodyBlt_moves hea hr hn hc
  have hrul : m'.ruling (m'.writes ea f.dataCtx (.ac m'.st.cab a)) .bltOwnAc = .ok () := by
    rcases hown with hrun | hne
    · exact Mach.ruling_run (hsame.cfg ▸ hrun) _ _
    · rw [Bool.eq_false_iff.2 fun hw => hne ((writes_iff hsame).1 hw)]
      exact Mach.ruling_false _ _
  rw [hrul] at hb
  exact ⟨_, hb, rfl⟩

theorem bodyBlt_ownAc {n : Nat} (hea : instrEa .blt e f m = .ok ea)
    (hr : m.ruling ((offOf ea.addr).ult (rh (m.x a))) .bltAboveE = .ok ())
    (hn : bltCount (rh (m.x a)) (offOf ea.addr) (bitAt m.fresh 35) = n)
    (hc : (m.st.draw 1).copy (ctxOf f.bits.d2) f.dataCtx incLocal n ⟨mkAddr (secOf ea.addr) (lh (m.x a)), ea.flag⟩
      ⟨mkAddr (secOf ea.addr) (rh (m.x a)), ea.flag⟩ = .ok t)
    (hrul : m.st.cfg.rulings = .refuse) (hown : m.st.locate ea f.dataCtx .write = .ok (.ac m.st.cab a)) :
    bodyBlt a e f m = refuse .bltOwnAc := by
  have hsame : m.st.SameRegs t := State.SameRegs.trans ⟨rfl⟩ (State.copy_sameRegs n hc)
  obtain ⟨m', rfl, hb⟩ := bodyBlt_moves hea hr hn hc
  rw [hb, (writes_iff hsame).2 hown, Mach.ruling_refuse (hsame.cfg ▸ hrul)]
  rfl

theorem bodyBlt_aboveE (hea : instrEa .blt e f m = .ok ea) (habove : offOf ea.addr < rh (m.x a)) (hrul : m.st.cfg.rulings = .refuse) :
    bodyBlt a e f m = refuse .bltAboveE := by
  have hr : m.ruling ((offOf ea.addr).ult (rh (m.x a))) .bltAboveE = refuse .bltAboveE := by
    rw [BitVec.ult_eq_decide_lt, decide_eq_true habove]
    exact Mach.ruling_refuse hrul _
  simp only [bodyBlt, hea, Run.ok_bind, hr]
  rfl

end Blt

/-- A start not above E is not refused. -/
theorem ruling_bltAboveE {m : Mach} {d l : Half} (h : d ≤ l) : m.ruling (l.ult d) .bltAboveE = .ok () := by
  have hlt : l.ult d = false := by simpa [BitVec.ult_eq_decide_lt] using h
  rw [hlt]
  exact Mach.ruling_false _ _

/-- The words up to E, both ends included. -/
theorem bltCount_le {d l : Half} (h : d ≤ l) (round : Bool) : bltCount d l round = l.toNat - d.toNat + 1 := by
  rw [bltCount, if_pos (.inl h), BitVec.toNat_sub_of_le h]

/-- From a start above E: round the section, or one word (log 24). -/
theorem bltCount_above {d l : Half} (h : l < d) (round : Bool) :
    bltCount d l round = if round = true then 2 ^ 18 - d.toNat + l.toNat + 1 else 1 := by
  have hle : ¬d ≤ l := BitVec.not_le.2 h
  have hsub : (l - d).toNat = 2 ^ 18 - d.toNat + l.toNat := by
    have := BitVec.lt_def.1 h
    have := d.isLt
    rw [BitVec.toNat_sub]
    omega
  rw [bltCount, hsub]
  simp only [hle, false_or]

/-- Settles O42: the words moved are a copy, before the check of R367 and the free value of AC A. -/
theorem bltResult : Obligations.BltResult := by
  intro a e s t ea hea
  refine ⟨fun hle hc => ⟨fun hown => ?ok, fun hr hown => ?own⟩, fun habove hr hc => ?above, fun habove hr => ?refused⟩
  case ok =>
    exact exec_next (bodyBlt_ok (m := .start s _) (instrEa_ok hea _ _) (ruling_bltAboveE hle) (bltCount_le hle _) hc hown)
  case own =>
    exact exec_refused (bodyBlt_ownAc (m := .start s _) (instrEa_ok hea _ _) (ruling_bltAboveE hle) (bltCount_le hle _) hc hr hown)
  case above =>
    exact exec_next (bodyBlt_ok (m := .start s _) (instrEa_ok hea _ _) (Mach.ruling_run hr _ _) (bltCount_above habove _) hc (.inl hr))
  case refused => exact exec_refused (bodyBlt_aboveE (m := .start s _) (instrEa_ok hea _ _) habove hr)

/-! ## XBLT (R369 to R372) -/

theorem ownAc_iff {m : Mach} {a : AcNum} {l : Loc} :
    ownAc m a l = true ↔ l ∈ [Loc.ac m.st.cab a, .ac m.st.cab (a + 1), .ac m.st.cab (a + 2)] := by
  simp [ownAc, or_assoc]

/-- A place of none of the three ACs. -/
theorem ownAc_false {m : Mach} {a : AcNum} {l : Loc} (h : ∀ n, l = .ac m.st.cab n → n ≠ a ∧ n ≠ a + 1 ∧ n ≠ a + 2) :
    ownAc m a l = false := by
  by_contra hown
  have hmem : l ∈ [Loc.ac m.st.cab a, .ac m.st.cab (a + 1), .ac m.st.cab (a + 2)] := ownAc_iff.1 (by simpa only [Bool.not_eq_false] using hown)
  simp only [List.mem_cons, List.not_mem_nil, or_false] at hmem
  rcases hmem with rfl | rfl | rfl
  · exact (h _ rfl).1 rfl
  · exact (h _ rfl).2.1 rfl
  · exact (h _ rfl).2.2 rfl

theorem State.SameRegs.sparesOwn {s t : State} (h : s.SameRegs t) {a : AcNum} {e : EA} {c : Ctx} {acc : Access}
    (hs : s.sparesOwn a e c acc) : t.sparesOwn a e c acc := fun n hn => hs n (by rwa [h.locate, h.cab] at hn)

/-- A stream of `n` further words does not step past 7777,,777777. -/
theorem ruling_stream {m : Mach} {n : Nat} {src dst : EA}
    (h : m.st.cfg.rulings = .run ∨ (src.addr.toNat + (n + 1) ≤ 2 ^ 30 ∧ dst.addr.toNat + (n + 1) ≤ 2 ^ 30)) :
    m.ruling (n != 0 && (atTop src || atTop dst)) .addressTop = .ok () := by
  rcases h with hrun | ⟨hs, hd⟩
  · exact Mach.ruling_run hrun _ _
  · have hno : ∀ e : EA, e.addr.toNat + (n + 1) ≤ 2 ^ 30 → n ≠ 0 → atTop e = false := fun e he hn => by
      have hne : e.addr ≠ 0o7777777777 := fun hc => by
        rw [hc] at he
        change 2 ^ 30 - 1 + (n + 1) ≤ 2 ^ 30 at he
        omega
      rw [atTop, beq_false_of_ne hne, Bool.and_false]
    by_cases hn : n = 0
    · subst hn
      exact Mach.ruling_false _ _
    · rw [hno src hs hn, hno dst hd hn, Bool.or_false, Bool.and_false]
      exact Mach.ruling_false _ _

theorem incGlobal_fits {e : EA} {n : Nat} (h : e.addr.toNat + (n + 1) ≤ 2 ^ 30) : (incGlobal e).addr.toNat + n ≤ 2 ^ 30 := by
  have hle : (e.addr + 1).toNat ≤ e.addr.toNat + 1 := by
    rw [BitVec.toNat_add]
    exact Nat.mod_le _ _
  have hinc : (incGlobal e).addr = e.addr + 1 := rfl
  rw [hinc]
  omega

/-- The loop of an XBLT whose streams spare its own ACs is a copy over 30 bits. -/
theorem xbltLoop_ok {a : AcNum} {cs cd : Ctx} (n : Nat) : ∀ {src dst : EA} {m : Mach} {t : State},
    (m.st.cfg.rulings = .run ∨ (src.addr.toNat + n ≤ 2 ^ 30 ∧ dst.addr.toNat + n ≤ 2 ^ 30)) →
    (∀ k, k < n → m.st.sparesOwn a (incGlobal^[k] src) cs .read ∧ m.st.sparesOwn a (incGlobal^[k] dst) cd .write) →
    m.st.copy cs cd incGlobal n src dst = .ok t →
    ∃ m', xbltLoop a cs cd n src dst false m = .ok (false, m') ∧ m'.st = t := by
  induction n with
  | zero => exact fun _ _ h => ⟨_, rfl, Except.ok.inj h⟩
  | succ n ih =>
    intro src dst m t hfit hspare h
    obtain ⟨ls, ld, hls, hld, h⟩ := State.copy_succ.1 h
    obtain ⟨hsrc, hdst⟩ := hspare 0 (Nat.succ_pos n)
    have hs : ownAc m a ls = false := ownAc_false fun k hk => hsrc k (hk ▸ hls)
    have hd : ownAc m a ld = false := ownAc_false fun k hk => hdst k (hk ▸ hld)
    have hsame := State.SameRegs.put m.st ld (m.st.get ls)
    obtain ⟨m', hm', ht⟩ := ih (m := m.put ld (m.st.get ls)) (src := incGlobal src) (dst := incGlobal dst)
      (hfit.imp (fun hrun => hsame.cfg ▸ hrun) fun ⟨h1, h2⟩ => ⟨incGlobal_fits h1, incGlobal_fits h2⟩)
      (fun k hk => (hspare (k + 1) (Nat.succ_lt_succ hk)).imp (fun hq => hsame.sparesOwn hq) fun hq => hsame.sparesOwn hq) h
    refine ⟨m', ?_, ht⟩
    have hrul : m.ruling false .xbltOwnAcs = .ok () := Mach.ruling_false _ _
    have htop : m.ruling (n != 0 && (atTop src || atTop dst)) .addressTop = .ok () := ruling_stream hfit
    simp only [xbltLoop, Mach.locate_ok hls, Run.ok_bind, hs, Bool.false_eq_true, if_false, Mach.locate_ok hld, hd, hrul, htop,
      Bool.or_false, hm']

section Xblt

variable {f : Frame} {m : Mach} {a : AcNum} {t : State} (hg : f.guardExt true = .ok ())
include hg

theorem bodyXblt_ok (h : m.st.xblts t a (ctxOf f.bits.e2) (ctxOf f.bits.d2)) (e0 : EA) (z : BitVec 4) (e : AddrFields) :
    ∃ m', bodyXblt a e0 z e f m = .ok m' ∧ m'.st = t.nextPc := by
  obtain ⟨hpos, hfit, hspare, t0, hc, rfl⟩ := h
  obtain ⟨m', hm', rfl⟩ := xbltLoop_ok (m := m) _ hfit hspare hc
  exact ⟨_, by simp only [bodyXblt, hg, Run.ok_bind, Mach.x_st, hpos, Bool.false_eq_true, if_false, hm', Run.pure_eq]; rfl, rfl⟩

theorem bodyXblt_negative (h : bitAt (m.st.x a) 0 = true) (e0 : EA) (z : BitVec 4) (e : AddrFields) :
    bodyXblt a e0 z e f m = refuse .xbltNegativeCount := by
  simp only [bodyXblt, hg, Run.ok_bind, Mach.x_st, h, if_true]

/-- A first word that is not moved ends the instruction. -/
theorem bodyXblt_first {n : Nat} {r : Refusal} (hpos : bitAt (m.st.x a) 0 = false) (hn : (m.st.x a).toNat = n + 1)
    (hl : xbltLoop a (ctxOf f.bits.e2) (ctxOf f.bits.d2) (n + 1) ⟨addrOf (m.st.x (a + 1)), .glob⟩ ⟨addrOf (m.st.x (a + 2)), .glob⟩ false m =
      refuse r) (e0 : EA) (z : BitVec 4) (e : AddrFields) : bodyXblt a e0 z e f m = refuse r := by
  simp only [bodyXblt, hg, Run.ok_bind, Mach.x_st, hpos, Bool.false_eq_true, if_false, hn, hl]
  rfl

end Xblt

section XbltRefusals

variable {a : AcNum} {cs cd : Ctx} {n : Nat} {src dst : EA} {m : Mach} {ls ld : Loc}
  (hls : m.st.locate src cs .read = .ok ls) (hld : m.st.locate dst cd .write = .ok ld)
include hls hld

/-- The first word: read, a free value standing for an AC of the instruction, then the two checks, then stored. -/
theorem xbltLoop_first (own : Bool) : ∃ (m1 : Mach) (v : Word), m1.st.cfg = m.st.cfg ∧ xbltLoop a cs cd (n + 1) src dst own m =
    (m1.ruling (ownAc m a ld) .xbltOwnAcs >>= fun _ => m1.ruling (n != 0 && (atTop src || atTop dst)) .addressTop >>= fun _ =>
      xbltLoop a cs cd n (incGlobal src) (incGlobal dst) (own || ownAc m a ld) (m1.put ld v)) := by
  by_cases hs : ownAc m a ls = true
  · have hld' : m.drawn.locate dst cd .write = .ok ld := Mach.locate_ok hld
    exact ⟨m.drawn, m.fresh, rfl, by simp only [xbltLoop, Mach.locate_ok hls, Run.ok_bind, hs, if_true, hld']; rfl⟩
  · rw [Bool.not_eq_true] at hs
    exact ⟨m, m.st.get ls, rfl, by
      simp only [xbltLoop, Mach.locate_ok hls, Run.ok_bind, hs, Bool.false_eq_true, if_false, Mach.locate_ok hld]⟩

/-- A word to be written in an AC of the instruction is refused (R370). -/
theorem xbltLoop_ownAcs (hr : m.st.cfg.rulings = .refuse) (hown : ownAc m a ld = true) (own : Bool) :
    xbltLoop a cs cd (n + 1) src dst own m = refuse .xbltOwnAcs := by
  obtain ⟨m1, v, hcfg, h⟩ := xbltLoop_first (a := a) (n := n) hls hld own
  rw [h, hown, Mach.ruling_refuse (hcfg ▸ hr)]
  rfl

/-- So is the step to a further word past 7777,,777777. -/
theorem xbltLoop_top (hr : m.st.cfg.rulings = .refuse) (hn : n ≠ 0) (hown : ownAc m a ld = false)
    (htop : (atTop src || atTop dst) = true) (own : Bool) : xbltLoop a cs cd (n + 1) src dst own m = refuse .addressTop := by
  obtain ⟨m1, v, hcfg, h⟩ := xbltLoop_first (a := a) (n := n) hls hld own
  have hb : (n != 0 && true) = true := by simpa using hn
  rw [h, hown, htop, hb, Mach.ruling_false, Run.ok_bind, Mach.ruling_refuse (hcfg ▸ hr)]
  rfl

end XbltRefusals

/-- Settles O43: the words moved are a copy, and the refusals are those of its first word. -/
theorem xbltResult : Obligations.XbltResult := by
  intro a e0 z e s t
  refine ⟨fun h => ?ok, fun h => ?negative, fun ls ld hr hpos hls hld => ⟨fun hne hown => ?ownAcs, fun h2 hown htop => ?top⟩⟩
  case ok => exact exec_next (bodyXblt_ok (f := s.top) (m := .start s _) rfl h e0 z e)
  case negative => exact exec_refused (bodyXblt_negative (f := s.top) (m := .start s _) rfl h e0 z e)
  case ownAcs =>
    obtain ⟨n, hn⟩ := Nat.exists_eq_succ_of_ne_zero (n := (s.x a).toNat) fun h0 => hne (BitVec.eq_of_toNat_eq h0)
    exact exec_refused (bodyXblt_first (f := s.top) (m := .start s _) rfl hpos hn
      (xbltLoop_ownAcs hls hld hr (ownAc_iff.2 hown) _) e0 z e)
  case top =>
    obtain ⟨n, hn⟩ := Nat.exists_eq_add_of_le' h2
    have hown' : ∀ iw, ownAc (.start s iw) a ld = false := fun iw => Bool.eq_false_iff.2 fun h => hown (ownAc_iff.1 h)
    have hat : (atTop ⟨addrOf (s.x (a + 1)), .glob⟩ || atTop ⟨addrOf (s.x (a + 2)), .glob⟩) = true := by
      simpa [atTop] using htop
    exact exec_refused (bodyXblt_first (f := s.top) (m := .start s _) rfl hpos hn
      (xbltLoop_top hls hld hr (Nat.succ_ne_zero n) (hown' _) hat _) e0 z e)

end Sys2Proof.Machine
end

section
/-! PROOFS. MOVSLJ (spec/42_extend.md R234 to R243) in any frame: a stepped pointer, a byte taken or deposited, a round, the rounds. -/

namespace Sys2Proof.Machine

/-! ## A stepped pointer (R236, R239) -/

theorem strSec_eq (m : Mach) (ctl : Bool) : strSec m ctl = m.st.ctxSec (ctxOf ctl) := by cases ctl <;> rfl

theorem pxSec_eq (s : State) (ctl : Bool) : pxSec s s.pcSec ctl = s.ctxSec (ctxOf ctl) := by cases ctl <;> rfl

/-- With both bits alike, the PXCT form of the EA-calc is the EA-calc of the context they name. -/
theorem State.pxEaCalc_both (s : State) (aw : AddrWord) (ctl : Bool) :
    s.pxEaCalc aw s.pcSec ctl ctl = s.eaCalc aw (s.ctxSec (ctxOf ctl)) (ctxOf ctl) := by
  cases ctl with
  | false => exact State.pxEaCalc_clear ..
  | true => exact State.pxEaCalc_prev ..

theorem State.SameRegs.ctxSec {s t : State} (h : s.SameRegs t) (c : Ctx) : t.ctxSec c = s.ctxSec c := by
  rw [h.regs]
  cases c <;> rfl

theorem State.SameRegs.setX (s : State) (n : AcNum) (v : Word) : s.SameRegs (s.setX n v) := ⟨rfl⟩

theorem State.SameRegs.pcPlus {s t : State} (h : s.SameRegs t) (k : Half) : t.pcPlus k = s.pcPlus k := by
  rw [h.regs]
  rfl

section Stepped

variable {s s1 : State} {c : Ctx} {k : AcNum} {p sz : Nat} {be : EA}

/-- The two words a step leaves, and what they are. -/
theorem State.stepsString.words (h : s.stepsString s1 c k p sz be) : ∃ w1 w2 kind,
    incBP s.cfg kind (s.x k) (s.x (k + 1)) = .ok (w1, w2) ∧ decodeBP (s.x k) (s.ctxSec c) = kind ∧
    decodeBP w1 (s.ctxSec c) = kind ∧ bpFields s.cfg kind w1 = .ok (p, sz) ∧
    s1 = (if kind = .twoGlobal then (s.setX k w1).setX (k + 1) w2 else s.setX k w1) ∧
    match kind with
    | .oneLocal => s1.eaCalc (.ifiw (fieldsOf w1)) (s.ctxSec c) c = .ok be
    | .oneGlobal => be = ⟨addrOf w1, .glob⟩
    | .twoGlobal => ∃ aw, classify w2 (s.ctxSec c) = some aw ∧ s1.eaCalc aw (s.ctxSec c) c = .ok be := by
  obtain ⟨w1, w2, hi, hk, hf, h⟩ := h
  refine ⟨w1, w2, _, hi, rfl, hk, hk ▸ hf, ?_⟩
  rw [← hk]
  cases hkind : decodeBP w1 (s.ctxSec c) with
  | oneLocal | oneGlobal | twoGlobal =>
    rw [hkind] at h
    exact h

theorem State.stepsString.sameRegs (h : s.stepsString s1 c k p sz be) : s.SameRegs s1 := by
  obtain ⟨w1, w2, kind, -, -, -, -, rfl, -⟩ := h.words
  split
  · exact (State.SameRegs.setX s _ _).trans (.setX _ _ _)
  · exact .setX s _ _

/-- A step changes the ACs of its pointer alone. -/
theorem State.stepsString.x_other (h : s.stepsString s1 c k p sz be) {j : AcNum} (hj : j ≠ k) (hj' : j ≠ k + 1) :
    s1.x j = s.x j := by
  obtain ⟨w1, w2, kind, -, -, -, -, rfl, -⟩ := h.words
  split
  · rw [State.x_setX_other _ hj', State.x_setX_other _ hj]
  · exact State.x_setX_other _ hj _

end Stepped

theorem State.x_setX_same (s : State) (n : AcNum) (v : Word) : (s.setX n v).x n = v := State.ac_setAc_same s s.cab n v

theorem acNum_ne_succ (k : AcNum) : k ≠ k + 1 := by revert k; decide

section Bytes

variable {m : Mach} {s1 : State} {k : AcNum} {ctl : Bool} {p sz : Nat} {be : EA} {l : Loc}

/-- The step, and where the stepped pointer's byte is. -/
theorem advancePtr_ok (h : m.st.stepsString s1 (ctxOf ctl) k p sz be) : ∃ m', advancePtr k ctl m = .ok m' ∧ m'.st = s1 ∧
    bpFields m'.st.cfg (strKind m' k ctl) (m'.x k) = .ok (p, sz) ∧ strBP m' k ctl = .ok be := by
  have hsame := h.sameRegs
  obtain ⟨w1, w2, kind, hi, hk, hk', hf, hs1, hbe⟩ := h.words
  obtain ⟨m', hm', hx, hx2⟩ : ∃ m' : Mach, m' = (if kind = .twoGlobal then (m.setX k w1).setX (k + 1) w2 else m.setX k w1) ∧
      m'.st.x k = w1 ∧ (kind = .twoGlobal → m'.st.x (k + 1) = w2) := by
    refine ⟨_, rfl, ?_, fun h2 => ?_⟩
    · split
      · exact (State.x_setX_other _ (acNum_ne_succ k) _).trans (State.x_setX_same ..)
      · exact State.x_setX_same ..
    · rw [if_pos h2]
      exact State.x_setX_same ..
  have hst : m'.st = s1 := by
    rw [hm', hs1]
    split <;> rfl
  have hkind : strKind m' k ctl = kind := by
    rw [strKind, strSec_eq, Mach.x_st, hx, hst, hsame.ctxSec, hk']
  refine ⟨m', ?_, hst, ?_, ?_⟩
  · simp only [advancePtr, strKind, strSec_eq, Mach.x_st, hk, hi, Run.ok_bind, Run.pure_eq, hm']
  · rw [hkind, Mach.x_st, hx, hst, hsame.cfg, hf]
  · rw [strBP, hkind, Mach.x_st, Mach.x_st, hx]
    cases kind with
    | oneLocal =>
      simp only [bpAddress, State.pxEaCalc_both, hst, hsame.ctxSec, hbe]
      rfl
    | oneGlobal =>
      rw [hbe]
      rfl
    | twoGlobal =>
      obtain ⟨aw, hc, hbe⟩ := hbe
      rw [hx2 rfl]
      simp only [bpAddress, State.pxEaCalc_both, pxSec_eq, hst, hsame.ctxSec, hc, hbe]
      rfl

theorem nextByte_ok (h : m.st.stepsString s1 (ctxOf ctl) k p sz be) (hl : s1.locate be (ctxOf ctl) .read = .ok l) :
    ∃ m', nextByte k ctl m = .ok (byteOf p sz (s1.get l), m') ∧ m'.st = s1 := by
  obtain ⟨m', hm', rfl, hf, hb⟩ := advancePtr_ok h
  exact ⟨m', by simp only [nextByte, hm', Run.ok_bind, hf, hb, Mach.read_ok hl, Run.pure_eq], rfl⟩

theorem putByte_ok (h : m.st.stepsString s1 (ctxOf ctl) k p sz be) (hl : s1.atIn (ctxOf ctl) be l) (b : Word) :
    ∃ m', putByte k ctl b m = .ok m' ∧ m'.st = s1.put l (depositByte p sz (s1.get l) b) := by
  obtain ⟨m', hm', rfl, hf, hb⟩ := advancePtr_ok h
  exact ⟨m'.put l (depositByte p sz (m'.st.get l) b), by simp only [putByte, hm', Run.ok_bind, hf, hb, Mach.read_ok hl.1, Mach.write_ok hl.2], rfl⟩

end Bytes

/-! ## Rounds (R239) -/

section Rounds

variable {a : AcNum} {src dst : Bool} {fill : Word}

theorem State.movsljRound.sameRegs {s t : State} {cs cd : Ctx} (h : s.movsljRound a cs cd fill t) : s.SameRegs t := by
  obtain ⟨b, s1, s2, p, sz, be, l, hsrc, hdst, -, rfl⟩ := h
  have h1 : s.SameRegs s1 := by
    by_cases hx : s.x a = 0
    · rw [if_pos hx] at hsrc
      obtain ⟨-, rfl⟩ := hsrc
      exact ⟨rfl⟩
    · rw [if_neg hx] at hsrc
      obtain ⟨s0, _, _, _, _, h0, -, -, rfl⟩ := hsrc
      exact h0.sameRegs.trans (.setX _ _ _)
  exact ((h1.trans hdst.sameRegs).trans (.put _ _ _)).trans (.setX _ _ _)

/-- One round of the loop. -/
theorem movsljLoop_round {m : Mach} {t : State} (hx : m.st.x (a + 3) ≠ 0) (h : m.st.movsljRound a (ctxOf src) (ctxOf dst) fill t) :
    ∃ m', m'.st = t ∧ ∀ n, movsljLoop a src dst fill (n + 1) m = movsljLoop a src dst fill n m' := by
  obtain ⟨b, s1, s2, p, sz, be, l, hsrc, hdst, hl, rfl⟩ := h
  obtain ⟨m1, hm1, rfl⟩ : ∃ m1 : Mach, movsljSource a src fill m = .ok (b, m1) ∧ m1.st = s1 := by
    by_cases hxa : m.st.x a = 0
    · rw [if_pos hxa] at hsrc
      obtain ⟨rfl, rfl⟩ := hsrc
      exact ⟨m, if_pos hxa, rfl⟩
    · rw [if_neg hxa] at hsrc
      obtain ⟨s0, p0, sz0, be0, l0, h0, hl0, rfl, rfl⟩ := hsrc
      obtain ⟨m0, hm0, rfl⟩ := nextByte_ok h0 hl0
      exact ⟨m0.setX a (m0.st.x a - 1), by simp only [movsljSource, Mach.x_st, if_neg hxa, hm0, Run.ok_bind, Run.pure_eq], rfl⟩
  obtain ⟨m2, hm2, hst⟩ := putByte_ok hdst hl b
  refine ⟨m2.setX (a + 3) (m2.st.x (a + 3) - 1), by rw [← hst]; rfl, fun n => ?_⟩
  simp only [movsljLoop, Mach.x_st, if_neg hx, hm1, Run.ok_bind, hm2]

/-- Rounds until no destination byte is left. -/
theorem movsljLoop_runs {t : State} (n : Nat) : ∀ {m : Mach} {fuel : Nat}, n < fuel →
    m.st.movsljRuns a (ctxOf src) (ctxOf dst) fill n t → t.x (a + 3) = 0 →
    m.st.SameRegs t ∧ ∃ m', movsljLoop a src dst fill fuel m = .ok m' ∧ m'.st = t := by
  induction n with
  | zero =>
    rintro m fuel hn rfl hz
    obtain ⟨k, rfl⟩ := Nat.exists_eq_add_of_lt hn
    exact ⟨⟨rfl⟩, m, by rw [Nat.zero_add, movsljLoop, Mach.x_st, if_pos hz], rfl⟩
  | succ n ih =>
    rintro m fuel hn ⟨hx, s1, hround, hruns⟩ hz
    obtain ⟨k, rfl⟩ := Nat.exists_eq_add_of_lt hn
    have hsame := hround.sameRegs
    obtain ⟨m1, rfl, hm1⟩ := movsljLoop_round hx hround
    obtain ⟨hsame', m', hm', hst⟩ := ih (m := m1) (fuel := n + 1 + k) (by omega) hruns hz
    exact ⟨hsame.trans hsame', m', (hm1 _).trans hm', hst⟩

theorem bodyMovslj_runs {f : Frame} {m : Mach} {e0 : EA} {lf : Loc} {n : Nat} {t : State} (hg : f.guardExt true = .ok ())
    (hm : m.st.mayInc e0) (hl : m.st.locate (inc e0) .cur .read = .ok lf) (hn : n < 2 ^ 64)
    (h : m.st.movsljRuns a (ctxOf f.bits.e2) (ctxOf f.bits.d2) (m.st.get lf) n t) (hz : t.x (a + 3) = 0) (z : BitVec 4)
    (e : AddrFields) : ∃ m', bodyMovslj a e0 z e f m = .ok m' ∧ m'.st = t.goto (m.st.pcPlus (if t.x a = 0 then 2 else 1)) := by
  obtain ⟨hsame, m', hm', rfl⟩ := movsljLoop_runs n (m := m) (fuel := movsljFuel) hn h hz
  refine ⟨m'.skipIf (m'.st.x a == 0), ?_, ?_⟩
  · simp only [bodyMovslj, hg, Run.ok_bind, Mach.incRef_ok hm, Mach.read_ok hl, hm', Mach.x_st, Run.pure_eq]
  · rw [← hsame.pcPlus]
    simp [Mach.skipIf]

end Rounds

/-! ## At PC -/

theorem exec_movslj {a : AcNum} {e0 : EA} {s t : State} {lf : Loc} {n : Nat} (hm : s.mayInc e0)
    (hl : s.locate (inc e0) .cur .read = .ok lf) (hn : n < 2 ^ 64) (h : s.movsljRuns a .cur .cur (s.get lf) n t)
    (hz : t.x (a + 3) = 0) (z : BitVec 4) (e : AddrFields) :
    exec (.movslj a e0 z e) s = .next (t.goto (s.pcPlus (if t.x a = 0 then 2 else 1))) :=
  exec_next (bodyMovslj_runs (f := s.top) (m := .start s _) rfl hm hl hn h hz z e)

/-- A store elsewhere leaves an AC of the current block alone. -/
theorem State.x_put_other {s : State} {l : Loc} {n : AcNum} (h : l ≠ .ac s.cab n) (v : Word) : (s.put l v).x n = s.x n := by
  have hget := State.get_put_other s (Ne.symm h) v
  rw [State.x, State.put_cab]
  exact hget

/-- The last round: a destination length of 1 becomes 0. -/
theorem State.movsljRound.last {s t : State} {a : AcNum} {fill : Word} (h3 : s.x (a + 3) = 1)
    (h : s.movsljRound a .cur .cur fill t) : s.movsljRuns a .cur .cur fill 1 t :=
  ⟨by rw [h3]; decide, t, h, rfl⟩

theorem lengths_apart (a : AcNum) : a + 3 ≠ a + 4 ∧ a + 3 ≠ a + 4 + 1 ∧ a ≠ a + 4 ∧ a ≠ a + 4 + 1 ∧ a ≠ a + 3 ∧ a ≠ a + 1 ∧
    a ≠ a + 1 + 1 ∧ a + 3 ≠ a + 1 ∧ a + 3 ≠ a + 1 + 1 := by revert a; decide

/-- The lengths after a deposit that spares them, from a state where the source has none left and the destination one. -/
theorem lengths_after_deposit {s s1 : State} {a : AcNum} {p sz : Nat} {be : EA} {l : Loc} (hs : s.stepsString s1 .cur (a + 4) p sz be)
    (ha : l ≠ .ac s.cab a) (h3 : l ≠ .ac s.cab (a + 3)) (hx : s.x a = 0) (hx3 : s.x (a + 3) = 1) (v : Word) :
    (s1.put l v).x (a + 3) - 1 = 0 ∧ ((s1.put l v).setX (a + 3) 0).x a = 0 := by
  obtain ⟨h34, h35, h04, h05, h03, -⟩ := lengths_apart a
  have hcab := hs.sameRegs.cab
  constructor
  · rw [State.x_put_other (hcab ▸ h3), hs.x_other h34 h35, hx3]
    rfl
  · rw [State.x_setX_other _ h03, State.x_put_other (hcab ▸ ha), hs.x_other h04 h05, hx]

/-- Settles O45: nothing left is no round, one byte is one round, and rounds make the rest. -/
theorem movsljRounds : Obligations.MovsljRounds := by
  intro a e0 z e s lf hm hl
  obtain ⟨-, -, -, -, h03, h01, h02, h31, h32⟩ := lengths_apart a
  refine ⟨fun hz => exec_movslj (n := 0) hm hl (by decide) rfl hz z e,
    fun s1 p sz be l h3 h0 hs hat ha ha3 => ?fill, fun s1 s2 p sz be l p' sz' be' l' h3 h0 hs hr hs' hat ha ha3 => ?byte,
    fun n t hn h hz => exec_movslj hm hl hn h hz z e⟩
  case fill =>
    obtain ⟨hlen, hsrc⟩ := lengths_after_deposit hs ha ha3 h0 h3 (depositByte p sz (s1.get l) (s.get lf))
    have hround : s.movsljRound a .cur .cur (s.get lf) ((s1.put l (depositByte p sz (s1.get l) (s.get lf))).setX (a + 3) 0) :=
      ⟨s.get lf, s, s1, p, sz, be, l, by rw [if_pos h0]; exact ⟨rfl, rfl⟩, hs, hat, by rw [hlen]⟩
    rw [exec_movslj hm hl (by decide) (hround.last h3) (State.x_setX_same ..) z e, if_pos hsrc]
  case byte =>
    have hne : s.x a ≠ 0 := by rw [h0]; decide
    have hx : s1.x a - 1 = 0 := by rw [hs.x_other h01 h02, h0]; rfl
    have hx3 : (s1.setX a 0).x (a + 3) = 1 := by rw [State.x_setX_other _ h03.symm, hs.x_other h31 h32, h3]
    have hcab : (s1.setX a 0).cab = s.cab := hs.sameRegs.cab
    obtain ⟨hlen, hsrc⟩ := lengths_after_deposit hs' (hcab ▸ ha) (hcab ▸ ha3) (State.x_setX_same ..) hx3
      (depositByte p' sz' (s2.get l') (byteOf p sz (s1.get l)))
    have hround : s.movsljRound a .cur .cur (s.get lf)
        ((s2.put l' (depositByte p' sz' (s2.get l') (byteOf p sz (s1.get l)))).setX (a + 3) 0) := by
      refine ⟨byteOf p sz (s1.get l), s1.setX a 0, s2, p', sz', be', l', ?_, hs', hat, by rw [hlen]⟩
      rw [if_neg hne]
      exact ⟨s1, p, sz, be, l, hs, hr, rfl, by rw [hx]⟩
    rw [exec_movslj hm hl (by decide) (hround.last h3) (State.x_setX_same ..) z e, if_pos hsrc]

end Sys2Proof.Machine
end

section
/-! PROOFS. PXCT of the byte, block and extended instructions (spec/48_xct_pxct.md R453 to R457): their bodies in PXCT's frames. -/

namespace Sys2Proof.Machine

/-! ## Bytes (R455, R456) -/

section Bytes

variable {s : State} {sec : Sec} {e : AddrFields} {n : AcNum}

/-- The pointer of a byte instruction under PXCT: where it is found (48_xct_pxct.md R455). -/
def State.pxPointer (s : State) (n : AcNum) (sec : Sec) (e : AddrFields) (ptr : EA) (c : Ctx) : Prop :=
  ∃ ea, ((n = 1 ∨ n = 3) ∧ s.eaCalc (.ifiw e) sec .cur = .ok ea ∧ ptr = ea ∧ c = .cur) ∨
    (n = 7 ∧ s.eaCalc (.ifiw e) sec .cur = .ok ea ∧ ptr = s.toPrev ea ∧ c = .prev) ∨
    (n = 0o17 ∧ s.eaCalc (.ifiw e) s.pcs .prev = .ok ea ∧ ptr = ea ∧ c = .prev)

/-- Its address and the context it is read in. -/
theorem instrEa_pxPointer {ptr : EA} {c : Ctx} (h : s.pxPointer n sec e ptr c) (iw : Option Word) :
    instrEa .byte e ⟨sec, some (pxOf n)⟩ (.start s iw) = .ok ptr ∧ Frame.dataCtx ⟨sec, some (pxOf n)⟩ = c := by
  obtain ⟨ea, ⟨hn, hea, rfl, rfl⟩ | ⟨rfl, hea, rfl, rfl⟩ | ⟨rfl, hea, rfl, rfl⟩⟩ := h
  · have hbits : PxClass.byte.legal (pxOf n) = true ∧ PxClass.byte.bits (pxOf n) = (false, false) ∧ (pxOf n).d1 = false := by
      rcases hn with rfl | rfl <;> decide
    refine ⟨?_, congrArg ctxOf hbits.2.2⟩
    rw [instrEa_pxct hbits.1, hbits.2.1, Mach.start_st, State.pxEaCalc_clear, hea]
    rfl
  · have hbits : PxClass.byte.legal (pxOf 7) = true ∧ PxClass.byte.bits (pxOf 7) = (false, true) := by decide
    refine ⟨?_, rfl⟩
    rw [instrEa_pxct hbits.1, hbits.2, Mach.start_st, State.pxEaCalc_toPrev hea]
    rfl
  · have hbits : PxClass.byte.legal (pxOf 0o17) = true ∧ PxClass.byte.bits (pxOf 0o17) = (true, true) := by decide
    refine ⟨?_, rfl⟩
    rw [instrEa_pxct hbits.1, hbits.2, Mach.start_st, State.pxEaCalc_prev, hea]
    rfl

/-- The address of its byte's word, where the pointer is a one-word local one (48_xct_pxct.md R456). -/
theorem byteAddress_px {ptr be ref : EA} {w1 : Word} (hn : n = 1 ∨ n = 3 ∨ n = 7 ∨ n = 0o17)
    (h : (n = 1 ∧ s.eaCalc (.ifiw (fieldsOf w1)) (secOf ptr.addr) .cur = .ok be ∧ ref = s.toPrev be) ∨
      (n ≠ 1 ∧ s.eaCalc (.ifiw (fieldsOf w1)) s.pcs .prev = .ok be ∧ ref = be)) (iw : Option Word) :
    byteAddress ⟨ptr, .oneLocal, w1, 0⟩ ⟨sec, some (pxOf n)⟩ (.start s iw) = .ok ref ∧
      Frame.byteCtx ⟨sec, some (pxOf n)⟩ = .prev := by
  have hd2 : (pxOf n).d2 = true := by rcases hn with rfl | rfl | rfl | rfl <;> decide
  have hbits : Frame.bits ⟨sec, some (pxOf n)⟩ = pxOf n := rfl
  refine ⟨?_, congrArg ctxOf hd2⟩
  simp only [byteAddress, bpAddress, hbits, hd2, reduceCtorEq, if_false, Mach.start_st]
  rcases h with ⟨rfl, hbe, rfl⟩ | ⟨hne, hbe, rfl⟩
  · have he2 : (pxOf 1).e2 = false := by decide
    rw [he2, State.pxEaCalc_toPrev hbe]
    rfl
  · have he2 : (pxOf n).e2 = true := by
      rcases hn with rfl | rfl | rfl | rfl
      · exact absurd rfl hne
      all_goals decide
    rw [he2, State.pxEaCalc_prev, hbe]
    rfl

end Bytes

/-! ## BLT (R453) -/

/-- E of a BLT under PXCT 5 or 15, and the previous context for both ends of the copy. -/
theorem instrEa_pxBlt {s : State} {n : AcNum} {sec : Sec} {e : AddrFields} {ea ref : EA}
    (h : (n = 5 ∧ s.eaCalc (.ifiw e) sec .cur = .ok ea ∧ ref = s.toPrev ea) ∨
      (n = 0o15 ∧ s.eaCalc (.ifiw e) s.pcs .prev = .ok ea ∧ ref = ea)) (iw : Option Word) :
    instrEa .blt e ⟨sec, some (pxOf n)⟩ (.start s iw) = .ok ref ∧ Frame.dataCtx ⟨sec, some (pxOf n)⟩ = .prev ∧
      ctxOf (Frame.bits ⟨sec, some (pxOf n)⟩).d2 = .prev := by
  rcases h with ⟨rfl, hea, rfl⟩ | ⟨rfl, hea, rfl⟩
  · have hbits : PxClass.blt.legal (pxOf 5) = true ∧ PxClass.blt.bits (pxOf 5) = (false, true) := by decide
    refine ⟨?_, rfl, rfl⟩
    rw [instrEa_pxct hbits.1, hbits.2, Mach.start_st, State.pxEaCalc_toPrev hea]
    rfl
  · have hbits : PxClass.blt.legal (pxOf 0o15) = true ∧ PxClass.blt.bits (pxOf 0o15) = (true, true) := by decide
    refine ⟨?_, rfl, rfl⟩
    rw [instrEa_pxct hbits.1, hbits.2, Mach.start_st, State.pxEaCalc_prev, hea]
    rfl

/-! ## EXTEND (R454) -/

/-- EXTEND in any frame it admits: E0 and the opcode word in current context, then the instruction it selects. -/
theorem bodyExtend_ok {f : Frame} {m : Mach} {e : AddrFields} {e0 : EA} {xw : Word} (hg : f.guardExtend = .ok ())
    (hea : m.st.eaCalc (.ifiw e) f.sec .cur = .ok e0) (hx : m.st.memRead e0 .cur = .ok xw) (a : AcNum) :
    bodyExtend a e f m = extendedBody a e0 (standardExtended m.st.cfg.opcodes xw) f m := by
  simp only [bodyExtend, hg, Run.ok_bind, hea, Mach.ea, Mach.read_memRead hx]

/-- The frames a PXCT of XBLT or MOVSLJ makes, and the contexts of their source and destination. -/
theorem pxExtend_frame {n : AcNum} {cs cd : Ctx}
    (h : (n = 1 ∧ cs = .cur ∧ cd = .prev) ∨ (n = 2 ∧ cs = .prev ∧ cd = .cur) ∨ (n = 3 ∧ cs = .prev ∧ cd = .prev)) (sec : Sec) :
    Frame.guardExtend ⟨sec, some (pxOf n)⟩ = .ok () ∧ Frame.guardExt ⟨sec, some (pxOf n)⟩ true = .ok () ∧
      ctxOf (Frame.bits ⟨sec, some (pxOf n)⟩).e2 = cs ∧ ctxOf (Frame.bits ⟨sec, some (pxOf n)⟩).d2 = cd := by
  rcases h with ⟨rfl, rfl, rfl⟩ | ⟨rfl, rfl, rfl⟩ | ⟨rfl, rfl, rfl⟩ <;> exact ⟨rfl, rfl, rfl, rfl⟩

/-- Settles O60: the pointer, the block and the strings are found in the contexts the control bits name. -/
theorem pxctBytesAndBlocks : Obligations.PxctBytesAndBlocks := by
  refine ⟨fun e e' a n s ea ea' ptr be ref c w w1 l hm hea hw hptr h1 hk hbe => ?bytes,
    fun e e' a n s t ea ea' ref w hm hea hw hi hn hle hown hc => ?blt,
    fun e e' a n s ea e0 cs cd w xw hm hea hw hi he0 hx hn => ?extend⟩
  case bytes =>
    have hn : n = 1 ∨ n = 3 ∨ n = 7 ∨ n = 0o17 := by
      rcases hptr with ⟨rfl | rfl, -⟩ | ⟨rfl, -⟩ | ⟨rfl, -⟩ <;> simp
    have hpx : s.pxPointer n (secOf ea.addr) e' ptr c := ⟨ea', hptr⟩
    have hfetch : ∀ iw, fetchPointer e' ⟨secOf ea.addr, some (pxOf n)⟩ (.start s iw) = .ok ⟨ptr, .oneLocal, w1, 0⟩ := fun iw => by
      obtain ⟨hE, hctx⟩ := instrEa_pxPointer hpx iw
      refine fetchPointer_one (m := .start s iw) hE ?_ hk (by decide)
      rw [hctx]
      exact h1
    have hbyte := byteAddress_px (sec := secOf ea.addr) hn hbe
    have hctx := (hbyte none).2
    rw [← hctx]
    exact ⟨fun hi hl => exec_pxct_ok hea hw hi hm (bodyLdb_ok (hfetch _) rfl (hbyte _).1 hl a),
      fun hi hl => exec_pxct_ok hea hw hi hm (bodyDpb_ok (hfetch _) rfl (hbyte _).1 hl a)⟩
  case blt =>
    obtain ⟨hE, hdata, hd2⟩ := instrEa_pxBlt (sec := secOf ea.addr) hn (some (standardWord s.cfg.opcodes w))
    obtain ⟨m', hb, hst⟩ := bodyBlt_ok (m := .start s (some (standardWord s.cfg.opcodes w))) (t := t) hE (ruling_bltAboveE hle)
      (bltCount_le hle _) (by rw [hdata, hd2]; exact hc) (by rw [hdata]; exact hown)
    rw [exec_pxct_ok hea hw hi hm hb, hst]
  case extend =>
    obtain ⟨hgx, hg, rfl, rfl⟩ := pxExtend_frame hn (secOf ea.addr)
    have hbody : ∀ iw, bodyExtend a e' ⟨secOf ea.addr, some (pxOf n)⟩ (.start s iw) =
        extendedBody a e0 (standardExtended s.cfg.opcodes xw) ⟨secOf ea.addr, some (pxOf n)⟩ (.start s iw) := fun iw =>
      bodyExtend_ok (m := .start s iw) hgx he0 hx a
    refine ⟨fun t hop h => ?xblt, fun k t lf hop hmay hl hk h hz => ?movslj⟩
    case xblt =>
      obtain ⟨m', hb, hst⟩ := bodyXblt_ok (m := .start s (some (standardWord s.cfg.opcodes w))) hg h e0
        (acField (standardExtended s.cfg.opcodes xw)) (fieldsOf (standardExtended s.cfg.opcodes xw))
      rw [← extendedBody_xblt hop] at hb
      rw [exec_pxct_ok hea hw hi hm ((hbody _).trans hb), hst]
    case movslj =>
      obtain ⟨m', hb, hst⟩ := bodyMovslj_runs (m := .start s (some (standardWord s.cfg.opcodes w))) hg hmay hl hk h hz
        (acField (standardExtended s.cfg.opcodes xw)) (fieldsOf (standardExtended s.cfg.opcodes xw))
      rw [← extendedBody_movslj hop] at hb
      rw [exec_pxct_ok hea hw hi hm ((hbody _).trans hb), hst]
      rfl

end Sys2Proof.Machine
end

section
/-! PROOFS. The string instructions that only read (spec/42_extend.md R242, R244): what a run of them can write before it ends. -/

namespace Sys2Proof.Machine

/-! ## Runs that keep a property of the machine -/

/-- Where `r` gives a value the machine `out` finds in it has the property `P`; where it ends in an event, that is a page fail and its
machine has it. -/
def Run.Keeps {α : Type} (P : Mach → Prop) (out : α → Mach) : Run α → Prop
  | .ok x => P (out x)
  | .error (.trap (.pageFail _) m) => P m
  | .error (.trap (.muuo ..) _) => False
  | .error _ => True

theorem Run.Keeps.bind {α β : Type} {P : Mach → Prop} {out : α → Mach} {out' : β → Mach} {r : Run α} {k : α → Run β}
    (h : r.Keeps P out) (hk : ∀ x, P (out x) → (k x).Keeps P out') : Run.Keeps P out' (r >>= k) := by
  cases r with
  | ok x => exact hk x h
  | error e =>
    cases e with
    | trap t m => cases t <;> exact h
    | fault _ => trivial
    | refused _ => trivial

section Reads

variable {P : Mach → Prop} {m : Mach} (h : P m)
include h

theorem Mach.ruling_keeps (b : Bool) (r : Refusal) : (m.ruling b r).Keeps P fun _ => m := by
  unfold Mach.ruling
  split
  · trivial
  · exact h

theorem Mach.incRef_keeps (e : EA) : (m.incRef e).Keeps P fun _ => m := (Mach.ruling_keeps h _ _).bind fun _ h => h

theorem Mach.ea_keeps (r : Except EaStop EA) : (m.ea r).Keeps P fun _ => m := by
  cases r with
  | ok x => exact h
  | error x =>
    cases x with
    | pageFail pf => exact h
    | endless => trivial

theorem Mach.read_keeps (e : EA) (c : Ctx) : (m.read e c).Keeps P fun _ => m := by
  cases hl : m.st.locate e c .read with
  | ok l =>
    rw [Mach.read_ok hl]
    exact h
  | error pf =>
    rw [Mach.read_error hl]
    exact h

theorem readWords_keeps (c : Ctx) (n : Nat) : ∀ e, (readWords m c n e).Keeps P fun _ => m := by
  induction n with
  | zero => exact fun _ => h
  | succ n ih =>
    exact fun e => (Mach.read_keeps h e c).bind fun _ h => (Mach.ruling_keeps h _ _).bind fun _ _ => (ih _).bind fun _ h => h

theorem bpFields_keeps (g : Config) (k : BpKind) (w : Word) : (bpFields g k w).Keeps P fun _ => m := by
  unfold bpFields
  split
  · split
    · exact h
    · trivial
  · exact h

theorem incBP_keeps (g : Config) (k : BpKind) (w1 w2 : Word) : (incBP g k w1 w2).Keeps P fun _ => m := by
  unfold incBP
  split
  · refine (bpFields_keeps h g k w1).bind fun ps h => ?_
    cases k with
    | oneLocal => exact h
    | twoGlobal => exact h
    | oneGlobal =>
      dsimp only
      split
      · exact h
      · trivial
  · exact h

theorem strBP_keeps (k : AcNum) (ctl : Bool) : (strBP m k ctl).Keeps P fun _ => m := by
  unfold strBP bpAddress
  split
  · exact Mach.ea_keeps h _
  · exact h
  · split
    · exact Mach.ea_keeps h _
    · exact h

theorem readTable_keeps (op : Nat) (t : Option EA) (b : Word) : (readTable op t b m).Keeps P fun _ => m := by
  unfold readTable
  split
  · exact h
  · exact (Mach.read_keeps h _ _).bind fun _ h => h

end Reads

/-! ## Only ACs of the block are written -/

/-- `m` was reached from `s` by writes of ACs A to A+5 of the current block. -/
structure OnlyAcs (s : State) (a : AcNum) (m : Mach) : Prop where
  /-- only ACs, memory and the counter of free values differ -/
  regs : s.SameRegs m.st
  /-- memory does not -/
  mem : m.st.mem = s.mem
  /-- nor do the other ACs -/
  others : ∀ n : AcNum, n ∉ [a, a + 1, a + 2, a + 3, a + 4, a + 5] → m.st.x n = s.x n
  /-- the places written -/
  log : ∀ l ∈ m.log, ∃ n, l = .ac s.cab n

section OnlyAcs

variable {s : State} {a : AcNum} {m : Mach}

theorem OnlyAcs.start (s : State) (a : AcNum) (iw : Option Word) : OnlyAcs s a (.start s iw) :=
  ⟨⟨rfl⟩, rfl, fun _ _ => rfl, fun _ hl => absurd hl List.not_mem_nil⟩

theorem OnlyAcs.drawn (h : OnlyAcs s a m) : OnlyAcs s a m.drawn := ⟨h.regs.trans ⟨rfl⟩, h.mem, h.others, h.log⟩

theorem OnlyAcs.setX (h : OnlyAcs s a m) {n : AcNum} (hn : n ∈ [a, a + 1, a + 2, a + 3, a + 4, a + 5]) (v : Word) :
    OnlyAcs s a (m.setX n v) := by
  refine ⟨h.regs.trans (.setX _ _ _), h.mem, fun j hj => ?_, fun l hl => ?_⟩
  · exact (State.x_setX_other _ (by rintro rfl; exact hj hn) v).trans (h.others j hj)
  · rcases List.mem_cons.1 hl with rfl | hl
    · exact ⟨n, by rw [h.regs.cab]⟩
    · exact h.log l hl

theorem OnlyAcs.setFree (h : OnlyAcs s a m) {n : AcNum} (hn : n ∈ [a, a + 1, a + 2, a + 3, a + 4, a + 5]) :
    OnlyAcs s a (m.setFree n) := (h.setX hn _).drawn

theorem OnlyAcs.freeBlock (h : OnlyAcs s a m) : OnlyAcs s a (freeBlock a m) :=
  (((((h.setFree (n := a + 0) (by simp)).setFree (n := a + 1) (by simp)).setFree (n := a + 2) (by simp)).setFree (n := a + 3)
    (by simp)).setFree (n := a + 4) (by simp)).setFree (n := a + 5) (by simp)

variable {k : AcNum} (hk : k ∈ [a, a + 1, a + 2, a + 3, a + 4, a + 5]) (hk' : k + 1 ∈ [a, a + 1, a + 2, a + 3, a + 4, a + 5])
include hk hk'

theorem advancePtr_keeps (h : OnlyAcs s a m) (ctl : Bool) : (advancePtr k ctl m).Keeps (OnlyAcs s a) id := by
  refine (incBP_keeps h _ _ _ _).bind fun w h => ?_
  change OnlyAcs s a (if strKind m k ctl = .twoGlobal then (m.setX k w.1).setX (k + 1) w.2 else m.setX k w.1)
  split
  · exact (h.setX hk _).setX hk' _
  · exact h.setX hk _

theorem nextByte_keeps (h : OnlyAcs s a m) (ctl : Bool) : (nextByte k ctl m).Keeps (OnlyAcs s a) Prod.snd :=
  (advancePtr_keeps hk hk' h ctl).bind fun _ h => (bpFields_keeps h _ _ _).bind fun _ h => (strBP_keeps h k ctl).bind fun _ h =>
    (Mach.read_keeps h _ _).bind fun _ h => h

theorem fetchBytes_keeps (op : Nat) (t : Option EA) (n : Nat) :
    ∀ m, OnlyAcs s a m → (fetchBytes op t k n m).Keeps (OnlyAcs s a) Prod.snd := by
  induction n with
  | zero => exact fun _ h => h
  | succ n ih =>
    exact fun m h => (nextByte_keeps hk hk' h false).bind fun _ h => (readTable_keeps h op t _).bind fun _ h =>
      (ih _ h).bind fun _ h => h

end OnlyAcs

/-! ## The instructions -/

/-- The rest of CMPSx before its skip: the order of the strings (R242). -/
def compareStrings (op : Nat) (a : AcNum) (e0 : EA) (m : Mach) : Run (Ordering × Mach) := do
  let e2 ← m.incRef e0
  let fills ← readWords m .cur 2 e2
  let (b1, m1) ← fetchBytes op none (a + 1) (freeCount m (m.x a)) m.drawn
  let (b2, m2) ← fetchBytes op none (a + 4) (freeCount m1 (m1.x (a + 3))) m1.drawn
  pure (Config.stringOrder (m.x a :: m.x (a + 3) :: fills) b1 b2, freeBlock a m2)

/-- The rest of CVTDBx before its skip (R244). -/
def binaryString (op : Nat) (usesTable : Bool) (a : AcNum) (e0 : EA) (e : AddrFields) (m : Mach) : Run (Bool × Mach) := do
  let e1 ← extendedEa e0 e m
  let (_, m1) ← fetchBytes op (if usesTable then some e1 else none) (a + 1) (freeCount m (m.x a)) m.drawn
  pure (bitAt (freeBlock a m1).fresh 35, (freeBlock a m1).drawn)

/-- Without a table the opcode does not matter to the bytes. -/
theorem fetchBytes_op (op op' : Nat) (k : AcNum) (n : Nat) : ∀ m, fetchBytes op none k n m = fetchBytes op' none k n m := by
  induction n with
  | zero => exact fun _ => rfl
  | succ n ih =>
    intro m
    have ht : ∀ op b m, readTable op none b m = .ok () := fun _ _ _ => rfl
    simp only [fetchBytes, ht, Run.ok_bind, ih]

theorem compareStrings_op (op op' : Nat) (a : AcNum) (e0 : EA) (m : Mach) : compareStrings op a e0 m = compareStrings op' a e0 m := by
  simp only [compareStrings, fetchBytes_op op op']

theorem Run.bind_assoc {α β γ : Type} (r : Run α) (f : α → Run β) (g : β → Run γ) :
    r >>= f >>= g = r >>= fun x => f x >>= g := by cases r <;> rfl

theorem freeCompare_eq (op : Nat) (rel : Ordering → Bool) (a : AcNum) (e0 : EA) (s : State) (m : Mach) :
    freeCompare op rel a e0 s.top m = compareStrings op a e0 m >>= fun x => .ok (x.2.skipIf (rel x.1)) := by
  have hg : s.top.guardExt false = .ok () := rfl
  simp only [freeCompare, compareStrings, hg, Run.ok_bind, Run.bind_assoc, Run.pure_eq]

theorem freeToBinary_eq (op : Nat) (usesTable : Bool) (a : AcNum) (e0 : EA) (e : AddrFields) (s : State) (m : Mach) :
    freeToBinary op usesTable a e0 e s.top m = binaryString op usesTable a e0 e m >>= fun x => .ok (x.2.skipIf x.1) := by
  have hg : s.top.guardExt false = .ok () := rfl
  simp only [freeToBinary, binaryString, finishString, hg, Run.ok_bind, Run.bind_assoc, Run.pure_eq]

section Keeps

variable {s : State} {a : AcNum} {m : Mach}

/-- The two pointers stand in the block (R233). -/
theorem pointers_mem (a : AcNum) : (a + 1 ∈ [a, a + 1, a + 2, a + 3, a + 4, a + 5] ∧ a + 1 + 1 ∈ [a, a + 1, a + 2, a + 3, a + 4, a + 5]) ∧
    a + 4 ∈ [a, a + 1, a + 2, a + 3, a + 4, a + 5] ∧ a + 4 + 1 ∈ [a, a + 1, a + 2, a + 3, a + 4, a + 5] := by
  revert a
  decide

theorem compareStrings_keeps (h : OnlyAcs s a m) (op : Nat) (e0 : EA) :
    (compareStrings op a e0 m).Keeps (OnlyAcs s a) Prod.snd := by
  obtain ⟨⟨h1, h2⟩, h4, h5⟩ := pointers_mem a
  refine (Mach.incRef_keeps h e0).bind fun e2 h => (readWords_keeps h _ _ _).bind fun fills h => ?_
  refine (fetchBytes_keeps h1 h2 op none _ _ h.drawn).bind fun x h => ?_
  refine (fetchBytes_keeps h4 h5 op none _ _ (OnlyAcs.drawn h)).bind fun y h => ?_
  exact OnlyAcs.freeBlock h

theorem binaryString_keeps (h : OnlyAcs s a m) (op : Nat) (t : Bool) (e0 : EA) (e : AddrFields) :
    (binaryString op t a e0 e m).Keeps (OnlyAcs s a) Prod.snd := by
  obtain ⟨⟨h1, h2⟩, -⟩ := pointers_mem a
  refine (Mach.ea_keeps h _).bind fun e1 h => ?_
  refine (fetchBytes_keeps h1 h2 op _ _ _ h.drawn).bind fun x h => ?_
  exact (OnlyAcs.freeBlock h).drawn

/-- The next state of an instruction that keeps to its ACs until it skips or not: the skip's, or a page fail's. -/
theorem next_of_keeps {α : Type} {i : Instr} {t : State} {r : Run α} {out : α → Mach} {sk : α → Bool}
    (hr : r.Keeps (OnlyAcs s a) out)
    (hb : bodyOf runWord i s.top (.start s (some (trapWord i))) = r >>= fun x => .ok ((out x).skipIf (sk x)))
    (h : exec i s = .next t) : (∃ x, r = .ok x ∧ OnlyAcs s a (out x) ∧ t = ((out x).skipIf (sk x)).st) ∨ s.pageFails t := by
  rw [exec_eq] at h
  cases r with
  | ok x =>
    rw [runTop_ok hb] at h
    exact .inl ⟨x, rfl, hr, (Host.Outcome.next.inj h).symm⟩
  | error x =>
    cases x with
    | trap e m =>
      cases e with
      | muuo _ _ _ => exact hr.elim
      | pageFail pf =>
        rw [runTop_trap hb] at h
        have hm : OnlyAcs s a m := hr
        obtain ⟨hregs, hmem, -, hlog⟩ := hm
        exact .inr ⟨m, pf, hlog, hmem, by rw [hregs.regs], by rw [hregs.regs], by rw [hregs.regs], by rw [hregs.regs]; rfl, h⟩
    | fault f => rw [runTop, hb] at h; cases h
    | refused f => rw [runTop, hb] at h; cases h

/-- A skip or none, after changes of ACs and memory, is a step of the PC. -/
theorem skipIf_regs (h : s.SameRegs m.st) (b : Bool) : (m.skipIf b).st.flags = s.flags ∧ (m.skipIf b).st.mode = s.mode ∧
    (m.skipIf b).st.context = s.context ∧ (m.skipIf b).st.pc = s.pcPlus (if b then 2 else 1) := by
  refine ⟨?_, ?_, ?_, h.pcPlus _⟩
  · rw [Mach.skipIf_flags, h.regs]
  · rw [Mach.skipIf_mode, h.regs]
  · change m.st.context = s.context
    rw [h.regs]
    rfl

theorem skipped_pc {t : State} {b : Bool} (h : t.pc = s.pcPlus (if b then 2 else 1)) : t.pc = s.pcPlus 1 ∨ t.pc = s.pcPlus 2 := by
  cases b with
  | false => exact .inl h
  | true => exact .inr h

/-- A reading string instruction leaves memory, flags, mode, context and the other ACs alone, or takes a page fail. -/
theorem storesNothing_of_keeps {α : Type} {i : Instr} {t : State} {r : Run α} {out : α → Mach} {sk : α → Bool}
    (hr : r.Keeps (OnlyAcs s a) out)
    (hb : bodyOf runWord i s.top (.start s (some (trapWord i))) = r >>= fun x => .ok ((out x).skipIf (sk x)))
    (h : exec i s = .next t) :
    (t.mem = s.mem ∧ t.flags = s.flags ∧ t.mode = s.mode ∧ t.context = s.context ∧ (t.pc = s.pcPlus 1 ∨ t.pc = s.pcPlus 2) ∧
      (∀ n : AcNum, n ∉ [a, a + 1, a + 2, a + 3, a + 4, a + 5] → t.x n = s.x n)) ∨ s.pageFails t := by
  rcases next_of_keeps hr hb h with ⟨x, -, hx, rfl⟩ | hpf
  · obtain ⟨hflags, hmode, hcontext, hpc⟩ := skipIf_regs hx.regs (sk x)
    exact .inl ⟨hx.mem, hflags, hmode, hcontext, skipped_pc hpc, hx.others⟩
  · exact .inr hpf

end Keeps

/-- Settles O48: what runs before the skip writes ACs of the block alone, and the six CMPSx run the same before theirs. -/
theorem readingStringsStoreNothing : Obligations.ReadingStringsStoreNothing := by
  refine ⟨?frame, fun a e0 z e s => ?order⟩
  case frame =>
    have hcmp : ∀ (op : Nat) (rel : Ordering → Bool) (i : AcNum → EA → BitVec 4 → AddrFields → Instr),
        (∀ a e0 z e, bodyOf runWord (i a e0 z e) = freeCompare op rel a e0) → ∀ a e0 z e s t, exec (i a e0 z e) s = .next t → _ :=
      fun op rel i hi a e0 z e s t => storesNothing_of_keeps (compareStrings_keeps (.start s a _) op e0)
        ((congrFun (congrFun (hi a e0 z e) _) _).trans (freeCompare_eq op rel a e0 s _))
    have hcvt : ∀ (op : Nat) (tab : Bool) (i : AcNum → EA → BitVec 4 → AddrFields → Instr),
        (∀ a e0 z e, bodyOf runWord (i a e0 z e) = freeToBinary op tab a e0 e) → ∀ a e0 z e s t, exec (i a e0 z e) s = .next t → _ :=
      fun op tab i hi a e0 z e s t => storesNothing_of_keeps (binaryString_keeps (.start s a _) op tab e0 e)
        ((congrFun (congrFun (hi a e0 z e) _) _).trans (freeToBinary_eq op tab a e0 e s _))
    simp only [List.forall_mem_cons]
    exact ⟨hcmp _ _ _ fun _ _ _ _ => rfl, hcmp _ _ _ fun _ _ _ _ => rfl, hcmp _ _ _ fun _ _ _ _ => rfl, hcmp _ _ _ fun _ _ _ _ => rfl,
      hcmp _ _ _ fun _ _ _ _ => rfl, hcmp _ _ _ fun _ _ _ _ => rfl, hcvt _ _ _ fun _ _ _ _ => rfl, hcvt _ _ _ fun _ _ _ _ => rfl,
      List.forall_mem_nil _⟩
  case order =>
    let m : Mach := .start s (some (instrWord 0o123 a ⟨false, 0, 0⟩))
    have hagree : ∃ o : Ordering, ∀ x, compareStrings 0 a e0 m = .ok x → x.1 = o := by
      cases hx : compareStrings 0 a e0 m with
      | ok x => exact ⟨x.1, fun y hy => by rw [Except.ok.inj hy]⟩
      | error _ => exact ⟨.eq, fun _ hy => nomatch hy⟩
    obtain ⟨o, ho⟩ := hagree
    have hcmp : ∀ (op : Nat) (rel : Ordering → Bool) (i : AcNum → EA → BitVec 4 → AddrFields → Instr),
        bodyOf runWord (i a e0 z e) = freeCompare op rel a e0 → trapWord (i a e0 z e) = instrWord 0o123 a ⟨false, 0, 0⟩ →
        ∀ t, exec (i a e0 z e) s = .next t → t.pc = s.pcPlus (if rel o then 2 else 1) ∨ s.pageFails t := by
      intro op rel i hi hw t h
      have hb : bodyOf runWord (i a e0 z e) s.top (.start s (some (trapWord (i a e0 z e)))) =
          compareStrings 0 a e0 m >>= fun x => .ok (x.2.skipIf (rel x.1)) := by
        rw [hi, hw, freeCompare_eq, compareStrings_op op 0]
      rcases next_of_keeps (compareStrings_keeps (.start s a _) 0 e0) hb h with ⟨x, hx, hkeep, rfl⟩ | hpf
      · rw [← ho x hx]
        exact .inl (hkeep.regs.pcPlus _)
      · exact .inr hpf
    refine ⟨o, ?_⟩
    simp only [List.forall_mem_cons]
    exact ⟨hcmp _ _ _ rfl rfl, hcmp _ _ _ rfl rfl, hcmp _ _ _ rfl rfl, hcmp _ _ _ rfl rfl, hcmp _ _ _ rfl rfl, hcmp _ _ _ rfl rfl,
      List.forall_mem_nil _⟩

end Sys2Proof.Machine
end

section
/-! PROOFS. Plain byte pointers (spec/41_byte.md R211) and the loops of the string instructions over them (42_extend.md section 3). -/

namespace Sys2Proof.Machine

/-! ## References where Map admits everything (20_memory.md R84) -/

/-- A reference then stands for one place, whatever the access; outside the ACs it is a word of memory. -/
theorem State.locate_admits {s : State} (h : configAdmitsAll s.cfg) (e : EA) (c : Ctx) :
    ∃ l, (∀ acc, s.locate e c acc = .ok l) ∧ (isAcRef e = false → ∃ p, l = .cell p) := by
  obtain ⟨hmap, hn⟩ := h
  have hsec : ¬s.cfg.nsect ≤ (secOf e.addr).toNat := by
    have := (secOf e.addr).isLt
    omega
  cases hac : isAcRef e with
  | true => exact ⟨_, fun acc => State.locate_ac s hac c acc, fun h => (nomatch h)⟩
  | false =>
    refine ⟨.cell (match s.space c with | .exec => e.addr.toNat | .user => userCellBase + e.addr.toNat), fun acc => ?_, fun _ => ⟨_, rfl⟩⟩
    simp only [State.locate, hac, hmap, mapLookup, Bool.false_eq_true, if_false, hsec] <;> rfl

theorem Mach.read_admits {m : Mach} (h : configAdmitsAll m.st.cfg) (e : EA) (c : Ctx) : ∃ v, m.read e c = .ok v := by
  obtain ⟨l, hl, -⟩ := State.locate_admits h e c
  exact ⟨_, Mach.read_ok (hl _)⟩

/-! ## Plain pointers -/

/-- A one-word local pointer stepped by the default of BYTE_INCREMENT. -/
def plainStep (w : Word) : Word :=
  withP (join (lh w) (rh w + if (stepPosition (bpP w).toNat (bpS w).toNat).2 then 1 else 0))
    (stepPosition (bpP w).toNat (bpS w).toNat).1

theorem incBP_plain {cfg : Config} (h : cfg.byteIncrement = .standard) (w w2 : Word) :
    incBP cfg .oneLocal w w2 = .ok (plainStep w, w2) := incBP_standard h

/-- The step leaves S, the format bit, I and X alone. -/
theorem getLsbD_plainStep (w : Word) {i : Nat} (hi : 18 ≤ i) (hi' : i < 30) : (plainStep w).getLsbD i = w.getLsbD i := by
  simp only [plainStep, withP, join, lh, BitVec.getLsbD_append, BitVec.getLsbD_extractLsb', hi', if_true, decide_true,
    Bool.true_and, Nat.zero_add, show ¬i < 18 by omega, if_false, show i - 18 < 18 by omega, show 18 + (i - 18) = i by omega]

theorem bpS_plainStep (w : Word) : bpS (plainStep w) = bpS w := by
  refine BitVec.eq_of_getLsbD_eq fun i hi => ?_
  simp only [bpS, BitVec.getLsbD_extractLsb', getLsbD_plainStep w (show 18 ≤ 24 + i by omega) (by omega)]

theorem bpP_plainStep (w : Word) : bpP (plainStep w) = (stepPosition (bpP w).toNat (bpS w).toNat).1 := bpP_append _ _

theorem rh_plainStep (w : Word) :
    rh (plainStep w) = rh w + if (stepPosition (bpP w).toNat (bpS w).toNat).2 then 1 else 0 := by
  rw [plainStep]
  generalize rh w + (if (stepPosition (bpP w).toNat (bpS w).toNat).2 then 1 else 0) = r
  refine BitVec.eq_of_getLsbD_eq fun i hi => ?_
  simp only [rh, withP, join, BitVec.getLsbD_append, BitVec.getLsbD_extractLsb', hi, decide_true, Bool.true_and,
    Nat.zero_add, show i < 30 by omega, if_true]

theorem stepPosition_le {p s : Nat} (hp : p ≤ 36) (hs : s ≤ 36) : (stepPosition p s).1.toNat ≤ 36 := by
  by_cases h : s ≤ p
  · rw [stepPosition_inside h, BitVec.toNat_ofNat]
    omega
  · rw [stepPosition_next (by omega) hs, BitVec.toNat_ofNat]
    omega

theorem plainPointer_step {w : Word} (h : plainPointer w) : plainPointer (plainStep w) := by
  obtain ⟨hp, hs, h12, hi, hx⟩ := h
  refine ⟨?_, by rw [bpS_plainStep]; exact hs, ?_, ?_, ?_⟩
  · rw [bpP_plainStep]
    exact stepPosition_le hp hs
  · exact (getLsbD_plainStep w (i := 23) (by decide) (by decide)).trans h12
  · exact (getLsbD_plainStep w (i := 22) (by decide) (by decide)).trans hi
  · refine Eq.trans (BitVec.eq_of_getLsbD_eq fun i hi => ?_) hx
    simp only [fieldsOf, ifiwX, BitVec.getLsbD_extractLsb', getLsbD_plainStep w (show 18 ≤ 18 + i by omega) (by omega)]

theorem decodeBP_plain {w : Word} (h : plainPointer w) (sec : Sec) : decodeBP w sec = .oneLocal := by
  obtain ⟨hp, -, h12, -⟩ := h
  rw [decodeBP, if_neg (by omega), if_pos h12]

/-- The address steps by one at most. -/
theorem rh_plainStep_le {w : Word} {n : Nat} (h : (rh w).toNat + (n + 1) < 2 ^ 18) :
    (rh w).toNat ≤ (rh (plainStep w)).toNat ∧ (rh (plainStep w)).toNat + n < 2 ^ 18 := by
  rw [rh_plainStep]
  split
  · have hadd : (rh w + 1).toNat = (rh w).toNat + 1 := by
      rw [BitVec.toNat_add, Nat.mod_eq_of_lt (by change (rh w).toNat + 1 < 2 ^ 18; omega)]
      rfl
    rw [hadd]
    omega
  · rw [show rh w + 0 = rh w from BitVec.add_zero _]
    omega

/-! ## Bytes through plain pointers -/

/-- A plain pointer steps in its AC alone, and its byte is in the word at its address in PC section. -/
theorem State.stepsString_plain {s : State} {k : AcNum} (hb : s.cfg.byteIncrement = .standard) (hp : plainPointer (s.x k)) :
    s.stepsString (s.setX k (plainStep (s.x k))) .cur k (bpP (plainStep (s.x k))).toNat (bpS (plainStep (s.x k))).toNat
      ⟨mkAddr s.pcSec (rh (plainStep (s.x k))), .loc⟩ := by
  have hp' := plainPointer_step hp
  have hk := decodeBP_plain hp (s.ctxSec .cur)
  have hk' := decodeBP_plain hp' (s.ctxSec .cur)
  refine ⟨plainStep (s.x k), s.x (k + 1), by rw [hk]; exact incBP_plain hb _ _, by rw [hk, hk'], by rw [hk']; rfl, ?_⟩
  rw [hk']
  obtain ⟨-, -, -, hi, hx⟩ := hp'
  refine ⟨rfl, ?_⟩
  rw [State.eaCalc_direct (aw := .ifiw (fieldsOf (plainStep (s.x k)))) _ hi]
  simp only [eaIter, hx, if_true]
  rfl

section PlainBytes

variable {m : Mach} {k : AcNum} (hadm : configAdmitsAll m.st.cfg) (hb : m.st.cfg.byteIncrement = .standard)
  (hp : plainPointer (m.st.x k))
include hadm hb hp

theorem nextByte_plain : ∃ b m', nextByte k false m = .ok (b, m') ∧ m'.st = m.st.setX k (plainStep (m.st.x k)) := by
  obtain ⟨l, hl, -⟩ := State.locate_admits (s := m.st.setX k (plainStep (m.st.x k))) hadm
    ⟨mkAddr m.st.pcSec (rh (plainStep (m.st.x k))), .loc⟩ .cur
  obtain ⟨m', hm', hst⟩ := nextByte_ok (ctl := false) (State.stepsString_plain hb hp) (hl .read)
  exact ⟨_, m', hm', hst⟩

/-- Outside the ACs the byte is stored in memory. -/
theorem putByte_plain (hy : 0o17 < (rh (plainStep (m.st.x k))).toNat) (b : Word) : ∃ m' p, putByte k false b m = .ok m' ∧
    m'.st = (m.st.setX k (plainStep (m.st.x k))).put (.cell p) (depositByte (bpP (plainStep (m.st.x k))).toNat
      (bpS (plainStep (m.st.x k))).toNat ((m.st.setX k (plainStep (m.st.x k))).get (.cell p)) b) := by
  have hac : isAcRef ⟨mkAddr m.st.pcSec (rh (plainStep (m.st.x k))), .loc⟩ = false := by
    rw [isAcRef_loc, offOf_mkAddr, decide_eq_false_iff_not, BitVec.le_def]
    exact Nat.not_le.2 hy
  obtain ⟨l, hl, hcell⟩ := State.locate_admits (s := m.st.setX k (plainStep (m.st.x k))) hadm
    ⟨mkAddr m.st.pcSec (rh (plainStep (m.st.x k))), .loc⟩ .cur
  obtain ⟨p, rfl⟩ := hcell hac
  obtain ⟨m', hm', hst⟩ := putByte_ok (ctl := false) (State.stepsString_plain hb hp) ⟨hl .read, hl .write⟩ b
  exact ⟨m', p, hm', hst⟩

end PlainBytes

/-! ## The loops -/

theorem readTable_admits {m : Mach} (h : configAdmitsAll m.st.cfg) (op : Nat) (t : Option EA) (b : Word) :
    readTable op t b m = .ok () := by
  cases t with
  | none => rfl
  | some t =>
    obtain ⟨v, hv⟩ := Mach.read_admits h (addIndex t (Config.tableIndex op b)) .cur
    simp only [readTable, hv, Run.ok_bind, Run.pure_eq]

/-- Bytes are fetched as long as the next one can be, and leave what each leaves. -/
theorem fetchBytes_of {P : Mach → Prop} {k : AcNum} (hadm : ∀ m, P m → configAdmitsAll m.st.cfg)
    (hstep : ∀ m, P m → ∃ b m', nextByte k false m = .ok (b, m') ∧ P m') (op : Nat) (t : Option EA) (n : Nat) :
    ∀ m, P m → ∃ bs m', fetchBytes op t k n m = .ok (bs, m') ∧ P m' := by
  induction n with
  | zero => exact fun m h => ⟨[], m, rfl, h⟩
  | succ n ih =>
    intro m h
    obtain ⟨b, m1, hm1, h1⟩ := hstep m h
    obtain ⟨bs, m2, hm2, h2⟩ := ih m1 h1
    exact ⟨b :: bs, m2, by simp only [fetchBytes, hm1, Run.ok_bind, readTable_admits (hadm m1 h1), hm2, Run.pure_eq], h2⟩

/-- So are bytes stored; `P` may count those still to come. -/
theorem storeBytes_of {P : Nat → Mach → Prop} {k : AcNum} (hadm : ∀ n m, P n m → configAdmitsAll m.st.cfg)
    (hstep : ∀ n m b, P (n + 1) m → ∃ m', putByte k false b m.drawn = .ok m' ∧ P n m') (op : Nat) (t : Option EA) (n : Nat) :
    ∀ m, P n m → ∃ m', storeBytes op t k n m = .ok m' ∧ P 0 m' := by
  induction n with
  | zero => exact fun m h => ⟨m, rfl, h⟩
  | succ n ih =>
    intro m h
    obtain ⟨m1, hm1, h1⟩ := hstep n m m.fresh h
    obtain ⟨m2, hm2, h2⟩ := ih m1 h1
    exact ⟨m2, by simp only [storeBytes, readTable_admits (hadm _ m h), Run.ok_bind, hm1, hm2], h2⟩

/-- `m` fetched bytes from `m0` on through the plain pointer in AC `k`. -/
structure Fetched (m0 : Mach) (k : AcNum) (m : Mach) : Prop where
  /-- only ACs, memory and the counter of free values differ -/
  regs : m0.st.SameRegs m.st
  /-- the pointer is plain -/
  plain : plainPointer (m.st.x k)
  /-- the other ACs are as they were -/
  others : ∀ j, j ≠ k → m.st.x j = m0.st.x j

theorem fetchBytes_plain {m0 m : Mach} {k : AcNum} (hadm : configAdmitsAll m0.st.cfg) (hb : m0.st.cfg.byteIncrement = .standard)
    (h : Fetched m0 k m) (op : Nat) (t : Option EA) (n : Nat) : ∃ bs m', fetchBytes op t k n m = .ok (bs, m') ∧ Fetched m0 k m' := by
  refine fetchBytes_of (P := Fetched m0 k) (fun m h => h.regs.cfg ▸ hadm) (fun m h => ?_) op t n m h
  obtain ⟨b, m', hm', hst⟩ := nextByte_plain (h.regs.cfg ▸ hadm) (h.regs.cfg ▸ hb) h.plain
  refine ⟨b, m', hm', ?_, ?_, fun j hj => ?_⟩
  · rw [hst]
    exact h.regs.trans (.setX _ _ _)
  · rw [hst, State.x_setX_same]
    exact plainPointer_step h.plain
  · rw [hst, State.x_setX_other _ hj, h.others j hj]

/-- `n` bytes can be stored from `m` on, which was reached from `s`, through the plain pointer in AC `k`, all of them in memory. -/
structure Storable (s : State) (k : AcNum) (n : Nat) (m : Mach) : Prop where
  /-- only ACs, memory and the counter of free values differ -/
  regs : s.SameRegs m.st
  /-- the pointer is plain -/
  plain : plainPointer (m.st.x k)
  /-- it points behind the ACs -/
  above : 0o17 < (rh (m.st.x k)).toNat
  /-- and does not come round to them -/
  below : (rh (m.st.x k)).toNat + n < 2 ^ 18

theorem storeBytes_plain {s : State} {m : Mach} {k : AcNum} {n : Nat} (hadm : configAdmitsAll s.cfg)
    (hb : s.cfg.byteIncrement = .standard) (h : Storable s k n m) (op : Nat) (t : Option EA) :
    ∃ m', storeBytes op t k n m = .ok m' ∧ Storable s k 0 m' := by
  refine storeBytes_of (P := Storable s k) (fun n m h => h.regs.cfg ▸ hadm) (fun n m b h => ?_) op t n m h
  obtain ⟨hle, hlt⟩ := rh_plainStep_le h.below
  have hx : m.drawn.st.x k = m.st.x k := rfl
  have hy : 0o17 < (rh (plainStep (m.drawn.st.x k))).toNat := Nat.lt_of_lt_of_le h.above hle
  obtain ⟨m', p, hm', hst⟩ := putByte_plain (m := m.drawn) (h.regs.cfg ▸ hadm) (h.regs.cfg ▸ hb) h.plain hy b
  have hx' : m'.st.x k = plainStep (m.st.x k) := by
    rw [hst, State.x_put_other (by simp), State.x_setX_same, hx]
  refine ⟨m', hm', ?_, ?_, ?_, ?_⟩
  · rw [hst]
    exact ((h.regs.trans ⟨rfl⟩).trans (.setX _ _ _)).trans (.put _ _ _)
  · rw [hx']
    exact plainPointer_step h.plain
  · rw [hx']
    exact hy
  · rw [hx']
    omega

/-- A free count does not exceed the length it is for. -/
theorem freeCount_le (m : Mach) (n : Word) : freeCount m n ≤ n.toNat := Nat.le_of_lt_succ (Nat.mod_lt _ (Nat.succ_pos _))

end Sys2Proof.Machine
end

section
/-! PROOFS. The string instructions complete (spec/42_extend.md section 3): on empty strings, and on plain ones of any length. -/

namespace Sys2Proof.Machine

/-! ## Ends of strings -/

theorem freeBlock_regs (a : AcNum) (m : Mach) : m.st.SameRegs (freeBlock a m).st := ⟨rfl⟩

/-- What the free values of the block are. -/
theorem freeBlock_st {s : State} {a : AcNum} {m : Mach} {k : Nat} (h : m.st = s.draw k) (j : Nat) (sk : Bool) :
    ((freeBlock a m).skipIf sk).st.draw j =
      (s.stringDone a (fun d => Config.freeWord (s.freeCtr + k + d.toNat)) sk).draw (k + 6 + j) := by
  obtain ⟨st, iw, log⟩ := m
  obtain rfl : st = s.draw k := h
  rw [← State.draw_draw, ← State.draw_draw]
  rfl

theorem EmptyStringForm.of_body {i : Instr} {a : AcNum} {s : State} {m : Mach} {k j : Nat} {sk : Bool} {m' : Mach}
    (h : m.st = s.draw k) (hm' : m'.st = ((freeBlock a m).skipIf sk).st.draw j)
    (hb : bodyOf runWord i s.top (.start s (some (trapWord i))) = .ok m') : EmptyStringForm i a s :=
  ⟨_, sk, _, exec_next ⟨m', hb, hm'.trans (freeBlock_st h j sk)⟩⟩

theorem finishString_emptyForm {i : Instr} {a : AcNum} {s : State} {m : Mach} {k : Nat} (h : m.st = s.draw k)
    (hb : bodyOf runWord i s.top (.start s (some (trapWord i))) = finishString a m) : EmptyStringForm i a s :=
  .of_body (j := 1) (sk := bitAt (freeBlock a m).fresh 35) h rfl hb

/-! ## Empty strings -/

section Empty

variable {s : State} {a : AcNum} {e0 e1 : EA} {e : AddrFields} {iw : Option Word}

theorem freeCount_empty {m : Mach} {n : AcNum} {k : Nat} (h : m.st = s.draw k) (hx : s.x n = 0) : freeCount m (m.x n) = 0 := by
  have hz : m.x n = 0 := by rw [Mach.x_st, h]; exact hx
  rw [hz]
  exact freeCount_zero m

theorem freeMove_empty {l1 : Loc} (h0 : s.x a = 0) (h3 : s.x (a + 3) = 0) (hm : s.mayInc e0)
    (hl : s.locate (inc e0) .cur .read = .ok l1) (op : Nat) (t : Option EA) :
    ∃ m, m.st = s.draw 2 ∧ freeMove op t a e0 (.start s iw) = finishString a m := by
  have hr : (Mach.start s iw).read (inc e0) .cur = .ok (s.get l1) := Mach.read_ok hl
  have hi : (Mach.start s iw).incRef e0 = .ok (inc e0) := Mach.incRef_ok hm
  have hc1 : freeCount (.start s iw) ((Mach.start s iw).x a) = 0 := freeCount_empty (k := 0) rfl h0
  have hc2 : freeCount (Mach.start s iw).drawn ((Mach.start s iw).drawn.x (a + 3)) = 0 := freeCount_empty (k := 1) rfl h3
  exact ⟨(Mach.start s iw).drawn.drawn, rfl,
    by simp only [freeMove, hi, Run.ok_bind, hr, hc1, fetchBytes, hc2, storeBytes]⟩

theorem compareStrings_empty {l1 l2 : Loc} (h0 : s.x a = 0) (h3 : s.x (a + 3) = 0) (hm : s.mayInc e0) (hm' : s.mayInc (inc e0))
    (hl : s.locate (inc e0) .cur .read = .ok l1) (hl' : s.locate (inc (inc e0)) .cur .read = .ok l2) (op : Nat) :
    ∃ o m, m.st = s.draw 2 ∧ compareStrings op a e0 (.start s iw) = .ok (o, freeBlock a m) := by
  have hr : (Mach.start s iw).read (inc e0) .cur = .ok (s.get l1) := Mach.read_ok hl
  have hr' : (Mach.start s iw).read (inc (inc e0)) .cur = .ok (s.get l2) := Mach.read_ok hl'
  have hi : (Mach.start s iw).incRef e0 = .ok (inc e0) := Mach.incRef_ok hm
  have htop : (Mach.start s iw).ruling (atTop (inc e0)) .addressTop = .ok () := Mach.ruling_mayInc hm'
  have hw : readWords (.start s iw) .cur 2 (inc e0) = .ok [s.get l1, s.get l2] := by
    simp only [readWords, hr, Run.ok_bind, ruling_more, htop, hr', ruling_last, Run.pure_eq]
  have hc1 : freeCount (.start s iw) ((Mach.start s iw).x a) = 0 := freeCount_empty (k := 0) rfl h0
  have hc2 : freeCount (Mach.start s iw).drawn ((Mach.start s iw).drawn.x (a + 3)) = 0 := freeCount_empty (k := 1) rfl h3
  exact ⟨_, (Mach.start s iw).drawn.drawn, rfl,
    by simp only [compareStrings, hi, Run.ok_bind, hw, hc1, fetchBytes, hc2, Run.pure_eq]; rfl⟩

end Empty

/-! ## Plain strings -/

/-- What every plain string instruction is given: no address unmapped, the default BYTE_INCREMENT, two plain pointers, and room for the
destination string behind the ACs. -/
structure PlainStrings (s : State) (a : AcNum) : Prop where
  /-- no address is unmapped -/
  admits : configAdmitsAll s.cfg
  /-- pointers step by the default -/
  standard : s.cfg.byteIncrement = .standard
  /-- the source pointer -/
  source : plainPointer (s.x (a + 1))
  /-- the destination pointer -/
  dest : plainPointer (s.x (a + 4))
  /-- the destination is behind the ACs -/
  above : 0o17 < (rh (s.x (a + 4))).toNat
  /-- and does not come round to them -/
  below : (rh (s.x (a + 4))).toNat + (s.x (a + 3)).toNat < 2 ^ 18

/-- A run that ends in a skip or not, having changed ACs and memory alone. -/
def Run.Completes (s : State) (r : Run Mach) : Prop := ∃ (m : Mach) (sk : Bool), r = .ok (m.skipIf sk) ∧ s.SameRegs m.st

theorem exec_completes {i : Instr} {s : State} (h : (bodyOf runWord i s.top (.start s (some (trapWord i)))).Completes s) :
    ∃ t, exec i s = .next t ∧ (t.pc = s.pcPlus 1 ∨ t.pc = s.pcPlus 2) ∧ t.flags = s.flags ∧ t.mode = s.mode ∧
      t.context = s.context := by
  obtain ⟨m, sk, hb, hs⟩ := h
  obtain ⟨hflags, hmode, hcontext, hpc⟩ := skipIf_regs hs sk
  exact ⟨_, exec_next ⟨_, hb, rfl⟩, skipped_pc hpc, hflags, hmode, hcontext⟩

theorem finishString_completes {s : State} {m : Mach} (h : s.SameRegs m.st) (a : AcNum) : (finishString a m).Completes s :=
  ⟨(freeBlock a m).drawn, _, rfl, (h.trans (freeBlock_regs a m)).trans ⟨rfl⟩⟩

/-- Words at an address and the addresses after it, none of which is stepped past the top. -/
theorem readWords_admits {m : Mach} (hadm : configAdmitsAll m.st.cfg) (c : Ctx) (n : Nat) :
    ∀ e, (∀ k, k + 1 < n → m.st.mayInc (inc^[k] e)) → ∃ ws, readWords m c n e = .ok ws := by
  induction n with
  | zero => exact fun _ _ => ⟨[], rfl⟩
  | succ n ih =>
    intro e h
    obtain ⟨v, hv⟩ := Mach.read_admits hadm e c
    obtain ⟨ws, hws⟩ := ih (inc e) fun k hk => h (k + 1) (Nat.succ_lt_succ hk)
    have hr : m.ruling (n != 0 && atTop e) .addressTop = .ok () := by
      cases n with
      | zero => exact ruling_last ..
      | succ n =>
        have h0 : m.st.mayInc e := h 0 (by omega)
        rw [ruling_more, Mach.ruling_mayInc h0]
    exact ⟨v :: ws, by simp only [readWords, hv, Run.ok_bind, hr, hws, Run.pure_eq]⟩

theorem dest_apart (a : AcNum) : a + 3 ≠ a + 1 ∧ a + 4 ≠ a + 1 := by revert a; decide

section Plain

variable {s : State} {a : AcNum} {e0 e1 : EA} {e : AddrFields} (h : PlainStrings s a) (iw : Option Word)
include h

/-- The source string is fetched, and leaves the destination's ACs. -/
theorem fetchSource (op : Nat) (t : Option EA) (n : Nat) : ∃ bs m, fetchBytes op t (a + 1) n (Mach.start s iw).drawn = .ok (bs, m) ∧
    s.SameRegs m.st ∧ m.st.x (a + 3) = s.x (a + 3) ∧ m.st.x (a + 4) = s.x (a + 4) := by
  obtain ⟨bs, m, hm, hf⟩ := fetchBytes_plain (m0 := .start s iw) (m := (Mach.start s iw).drawn) h.admits h.standard
    ⟨⟨rfl⟩, h.source, fun _ _ => rfl⟩ op t n
  obtain ⟨h31, h41⟩ := dest_apart a
  exact ⟨bs, m, hm, hf.regs, hf.others _ h31, hf.others _ h41⟩

/-- Then the destination string is stored. -/
theorem storeDest {m : Mach} (hs : s.SameRegs m.st) (h3 : m.st.x (a + 3) = s.x (a + 3)) (h4 : m.st.x (a + 4) = s.x (a + 4)) (op : Nat)
    (t : Option EA) : ∃ m', storeBytes op t (a + 4) (freeCount m (m.x (a + 3))) m.drawn = .ok m' ∧ s.SameRegs m'.st := by
  have hle := freeCount_le m (m.x (a + 3))
  rw [Mach.x_st, h3] at hle
  have hbelow := h.below
  have hst : Storable s (a + 4) (freeCount m (m.x (a + 3))) m.drawn := by
    have hx : m.drawn.st.x (a + 4) = s.x (a + 4) := h4
    refine ⟨hs.trans ⟨rfl⟩, hx ▸ h.dest, hx ▸ h.above, ?_⟩
    rw [hx, Mach.x_st, h3]
    omega
  obtain ⟨m', hm', hd⟩ := storeBytes_plain h.admits h.standard hst op t
  exact ⟨m', hm', hd.regs⟩

theorem freeMove_completes (hm : s.mayInc e0) (op : Nat) (t : Option EA) : (freeMove op t a e0 (.start s iw)).Completes s := by
  obtain ⟨v, hv⟩ := Mach.read_admits (m := .start s iw) h.admits (inc e0) .cur
  have hi : (Mach.start s iw).incRef e0 = .ok (inc e0) := Mach.incRef_ok hm
  obtain ⟨bs, m1, hm1, hs1, h3, h4⟩ := fetchSource h iw op t (freeCount (.start s iw) ((Mach.start s iw).x a))
  obtain ⟨m2, hm2, hs2⟩ := storeDest h hs1 h3 h4 op none
  simp only [freeMove, hi, Run.ok_bind, hv, hm1, hm2]
  exact finishString_completes hs2 a

theorem freeCompare_completes (hm : s.mayInc e0) (hm' : s.mayInc (inc e0)) (op : Nat) (rel : Ordering → Bool) :
    (freeCompare op rel a e0 s.top (.start s iw)).Completes s := by
  have hi : (Mach.start s iw).incRef e0 = .ok (inc e0) := Mach.incRef_ok hm
  obtain ⟨ws, hws⟩ := readWords_admits (m := .start s iw) h.admits .cur 2 (inc e0) fun k hk => by
    obtain rfl : k = 0 := by omega
    exact hm'
  obtain ⟨bs, m1, hm1, hs1, h3, h4⟩ := fetchSource h iw op none (freeCount (.start s iw) ((Mach.start s iw).x a))
  obtain ⟨cs, m2, hm2, hf⟩ := fetchBytes_plain (m0 := m1) (m := m1.drawn) (k := a + 4) (hs1.cfg ▸ h.admits) (hs1.cfg ▸ h.standard)
    ⟨⟨rfl⟩, h4 ▸ h.dest, fun _ _ => rfl⟩ op none (freeCount m1 (m1.x (a + 3)))
  rw [freeCompare_eq]
  simp only [compareStrings, hi, Run.ok_bind, hws, hm1, hm2, Run.pure_eq]
  exact ⟨_, _, rfl, (hs1.trans hf.regs).trans (freeBlock_regs a m2)⟩

variable (he : s.eaCalc (.ifiw e) (secOf e0.addr) .cur = .ok e1)
include he

theorem freeToBinary_completes (op : Nat) (usesTable : Bool) : (freeToBinary op usesTable a e0 e s.top (.start s iw)).Completes s := by
  have hE : extendedEa e0 e (.start s iw) = .ok e1 := congrArg (Mach.start s iw).ea he
  obtain ⟨bs, m1, hm1, hs1, -⟩ := fetchSource h iw op (if usesTable then some e1 else none)
    (freeCount (.start s iw) ((Mach.start s iw).x a))
  rw [freeToBinary_eq]
  simp only [binaryString, hE, Run.ok_bind, hm1, Run.pure_eq]
  exact finishString_completes hs1 a

theorem freeToDecimal_completes (op : Nat) (usesTable : Bool) :
    (freeToDecimal op usesTable a e0 e s.top (.start s iw)).Completes s := by
  have hg : s.top.guardExt false = .ok () := rfl
  have hE : extendedEa e0 e (.start s iw) = .ok e1 := congrArg (Mach.start s iw).ea he
  obtain ⟨m1, hm1, hs1⟩ := storeDest h (m := .start s iw) ⟨rfl⟩ rfl rfl op (if usesTable then some e1 else none)
  simp only [freeToDecimal, hg, Run.ok_bind, hE, hm1]
  exact finishString_completes hs1 a

end Plain

/-- A MOVSxx with an E1x of its own comes to the move when that is computed. -/
theorem bodyMovso_eq {s : State} {e0 e1 : EA} {e : AddrFields} (he : s.eaCalc (.ifiw e) (secOf e0.addr) .cur = .ok e1) (a : AcNum)
    (z : BitVec 4) (iw : Option Word) : bodyMovso a e0 z e s.top (.start s iw) = freeMove 0o014 none a e0 (.start s iw) := by
  have hg : s.top.guardExt false = .ok () := rfl
  have hE : extendedEa e0 e (.start s iw) = .ok e1 := congrArg (Mach.start s iw).ea he
  simp only [bodyMovso, hg, Run.ok_bind, hE]

theorem bodyMovst_eq {s : State} {e0 e1 : EA} {e : AddrFields} (he : s.eaCalc (.ifiw e) (secOf e0.addr) .cur = .ok e1) (a : AcNum)
    (z : BitVec 4) (iw : Option Word) : bodyMovst a e0 z e s.top (.start s iw) = freeMove 0o015 (some e1) a e0 (.start s iw) := by
  have hg : s.top.guardExt false = .ok () := rfl
  have hE : extendedEa e0 e (.start s iw) = .ok e1 := congrArg (Mach.start s iw).ea he
  simp only [bodyMovst, hg, Run.ok_bind, hE]

theorem freeToBinary_empty {s : State} {a : AcNum} {e0 e1 : EA} {e : AddrFields} (h0 : s.x a = 0)
    (he : s.eaCalc (.ifiw e) (secOf e0.addr) .cur = .ok e1) (op : Nat) (t : Bool) (iw : Option Word) :
    freeToBinary op t a e0 e s.top (.start s iw) = finishString a (Mach.start s iw).drawn := by
  have hg : s.top.guardExt false = .ok () := rfl
  have hE : extendedEa e0 e (.start s iw) = .ok e1 := congrArg (Mach.start s iw).ea he
  have hc : freeCount (.start s iw) ((Mach.start s iw).x a) = 0 := freeCount_empty (k := 0) rfl h0
  simp only [freeToBinary, hg, Run.ok_bind, hE, hc, fetchBytes]

theorem freeToDecimal_empty {s : State} {a : AcNum} {e0 e1 : EA} {e : AddrFields} (h3 : s.x (a + 3) = 0)
    (he : s.eaCalc (.ifiw e) (secOf e0.addr) .cur = .ok e1) (op : Nat) (t : Bool) (iw : Option Word) :
    freeToDecimal op t a e0 e s.top (.start s iw) = finishString a (Mach.start s iw).drawn := by
  have hg : s.top.guardExt false = .ok () := rfl
  have hE : extendedEa e0 e (.start s iw) = .ok e1 := congrArg (Mach.start s iw).ea he
  have hc : freeCount (.start s iw) ((Mach.start s iw).x (a + 3)) = 0 := freeCount_empty (k := 0) rfl h3
  simp only [freeToDecimal, hg, Run.ok_bind, hE, hc, storeBytes]

/-- Settles O46: a free count of nothing is nothing, and plain strings are fetched and stored byte by byte. -/
theorem emptyStrings : Obligations.EmptyStrings := by
  refine ⟨fun a e0 e1 z e s l1 l2 h0 h3 hm hm' hl hl' he => ?empty,
    fun a e0 e1 z e s hadm hb hm hm' he hsrc hdst habove hbelow => ?plain⟩
  case empty =>
    have hmove : ∀ (i : Instr) (op : Nat) (t : Option EA),
        bodyOf runWord i s.top (.start s (some (trapWord i))) = freeMove op t a e0 (.start s (some (trapWord i))) →
        EmptyStringForm i a s := fun i op t hi => by
      obtain ⟨m, hst, hmv⟩ := freeMove_empty (iw := some (trapWord i)) h0 h3 hm hl op t
      exact finishString_emptyForm hst (hi.trans hmv)
    have hcmp : ∀ (i : Instr) (op : Nat) (rel : Ordering → Bool), bodyOf runWord i = freeCompare op rel a e0 →
        EmptyStringForm i a s := fun i op rel hi => by
      obtain ⟨o, m, hst, hc⟩ := compareStrings_empty (iw := some (trapWord i)) h0 h3 hm hm' hl hl' op
      exact .of_body (j := 0) (sk := rel o) hst rfl (by rw [hi, freeCompare_eq, hc]; rfl)
    have hbin : ∀ (i : Instr) (op : Nat) (t : Bool), bodyOf runWord i = freeToBinary op t a e0 e → EmptyStringForm i a s :=
      fun i op t hi => finishString_emptyForm (k := 1) rfl (by rw [hi, freeToBinary_empty h0 he])
    have hdec : ∀ (i : Instr) (op : Nat) (t : Bool), bodyOf runWord i = freeToDecimal op t a e0 e → EmptyStringForm i a s :=
      fun i op t hi => finishString_emptyForm (k := 1) rfl (by rw [hi, freeToDecimal_empty h3 he])
    have hsrj : ∀ m, bodyMovsrj a e0 z e s.top m = freeMove 0o017 none a e0 m := fun m => rfl
    simp only [List.forall_mem_cons]
    exact ⟨hmove _ _ _ (bodyMovso_eq he a z _), hmove _ _ _ (bodyMovst_eq he a z _), hmove _ _ _ (hsrj _), hcmp _ _ _ rfl, hcmp _ _ _ rfl,
      hcmp _ _ _ rfl, hcmp _ _ _ rfl, hcmp _ _ _ rfl, hcmp _ _ _ rfl, hbin _ _ _ rfl, hbin _ _ _ rfl, hdec _ _ _ rfl, hdec _ _ _ rfl,
      List.forall_mem_nil _⟩
  case plain =>
    have h : PlainStrings s a := ⟨hadm, hb, hsrc, hdst, habove, hbelow⟩
    have hmove : ∀ (i : Instr) (op : Nat) (t : Option EA),
        bodyOf runWord i s.top (.start s (some (trapWord i))) = freeMove op t a e0 (.start s (some (trapWord i))) →
        (bodyOf runWord i s.top (.start s (some (trapWord i)))).Completes s := fun i op t hi => by
      rw [hi]
      exact freeMove_completes h _ hm op t
    have hsrj : ∀ m, bodyMovsrj a e0 z e s.top m = freeMove 0o017 none a e0 m := fun m => rfl
    have hcmp := fun iw => freeCompare_completes h iw hm hm'
    have hbin := fun iw => freeToBinary_completes h iw he
    have hdec := fun iw => freeToDecimal_completes h iw he
    simp only [List.forall_mem_cons]
    exact ⟨exec_completes (hmove _ _ _ (bodyMovso_eq he a z _)), exec_completes (hmove _ _ _ (bodyMovst_eq he a z _)),
      exec_completes (hmove _ _ _ (hsrj _)), exec_completes (hcmp _ _ _), exec_completes (hcmp _ _ _), exec_completes (hcmp _ _ _),
      exec_completes (hcmp _ _ _), exec_completes (hcmp _ _ _), exec_completes (hcmp _ _ _), exec_completes (hbin _ _ _),
      exec_completes (hbin _ _ _), exec_completes (hdec _ _ _), exec_completes (hdec _ _ _), List.forall_mem_nil _⟩

end Sys2Proof.Machine
end

section
/-! PROOFS. EDIT completes (spec/42_extend.md R245). -/

namespace Sys2Proof.Machine

/-! ## What an instruction in progress leaves alone -/

/-- `m` was reached from `s`, and differs from it in the places of `out` and the counter of free values alone. -/
structure Spares (s : State) (out : Loc → Prop) (m : Mach) : Prop where
  /-- no register differs -/
  regs : s.SameRegs m.st
  /-- memory is canonical -/
  wf : Memory.wf m.st.mem = true
  /-- other places hold what they held -/
  get : ∀ l, ¬out l → m.st.get l = s.get l

namespace Spares

variable {s : State} {out out' : Loc → Prop} {m : Mach}

theorem start (hwf : Memory.wf s.mem = true) (iw : Option Word) : Spares s out (.start s iw) := ⟨⟨rfl⟩, hwf, fun _ _ => rfl⟩

theorem drawn (h : Spares s out m) : Spares s out m.drawn :=
  ⟨h.regs.trans ⟨rfl⟩, h.wf, fun l hl => (by cases l <;> rfl : m.drawn.st.get l = m.st.get l).trans (h.get l hl)⟩

theorem mono (h : Spares s out m) (ho : ∀ l, out l → out' l) : Spares s out' m :=
  ⟨h.regs, h.wf, fun l hl => h.get l (hl ∘ ho l)⟩

/-- A place of `out` may be written. -/
theorem put {m' : Mach} {l : Loc} {v : Word} (h : Spares s out m) (hl : out l) (hst : m'.st = m.st.put l v) : Spares s out m' := by
  refine ⟨hst ▸ h.regs.trans (.put _ _ _), hst ▸ State.put_wf h.wf _ _, fun l' hl' => ?_⟩
  have hne : l' ≠ l := fun he => hl' (he ▸ hl)
  rw [hst, State.get_put_other _ hne, h.get l' hl']

/-- What a place holds may be written back to it. -/
theorem put_self {m' : Mach} {l : Loc} {v : Word} (h : Spares s out m) (hv : v = m.st.get l) (hst : m'.st = m.st.put l v) :
    Spares s out m' := by
  refine ⟨hst ▸ h.regs.trans (.put _ _ _), hst ▸ State.put_wf h.wf _ _, fun l' hl' => ?_⟩
  rw [hst, ← h.get l' hl']
  by_cases he : l' = l
  · rw [he, State.get_put_same h.wf, hv]
  · rw [State.get_put_other _ he]

theorem x (h : Spares s out m) {n : AcNum} (hn : ¬out (.ac s.cab n)) : m.st.x n = s.x n := by
  have hget := h.get _ hn
  rw [State.x, h.regs.cab]
  exact hget

theorem setFree (h : Spares s out m) {n : AcNum} (hn : out (.ac s.cab n)) : Spares s out (m.setFree n) := by
  have hput : Spares s out (m.setX n m.fresh) := h.put (l := .ac m.st.cab n) (h.regs.cab ▸ hn) rfl
  exact hput.drawn

/-- The block A to A+5 left free. -/
theorem freeBlock (h : Spares s out m) {a : AcNum} (ha : ∀ n ∈ [a, a + 1, a + 2, a + 3, a + 4, a + 5], out (.ac s.cab n)) :
    Spares s out (freeBlock a m) := by
  simp only [List.forall_mem_cons] at ha
  obtain ⟨h0, h1, h2, h3, h4, h5, -⟩ := ha
  rw [← show a + 0 = a from BitVec.add_zero a] at h0
  exact ((((((h.setFree h0).setFree h1).setFree h2).setFree h3).setFree h4).setFree h5)

end Spares

/-! ## Pointers to bytes of size 0 -/

theorem join_zero_fields (y : Half) : bpP (join 0 y) = 0 ∧ bpS (join 0 y) = 0 ∧ rh (join 0 y) = y ∧ (join 0 y).getLsbD 23 = false ∧
    (fieldsOf (join 0 y)).i = false ∧ (fieldsOf (join 0 y)).x = 0 := by
  have high : ∀ i, 18 ≤ i → (join 0 y).getLsbD i = false := fun i hi => by
    rw [join, BitVec.getLsbD_append, if_neg (by omega)]
    exact BitVec.getLsbD_zero
  have field : ∀ start len, 18 ≤ start → (join 0 y).extractLsb' start len = 0#len := fun start len hs => by
    refine BitVec.eq_of_getLsbD_eq fun i hi => ?_
    rw [BitVec.getLsbD_extractLsb', high _ (by omega), Bool.and_false, BitVec.getLsbD_zero]
  exact ⟨field 30 6 (by decide), field 24 6 (by decide), BitVec.extractLsb'_append_eq_right, high 23 (by decide), high 22 (by decide),
    field 18 4 (by decide)⟩

theorem plainPointer_join_zero (y : Half) : plainPointer (join 0 y) := by
  obtain ⟨hp, hs, -, h12, hi, hx⟩ := join_zero_fields y
  exact ⟨by rw [hp]; decide, by rw [hs]; decide, h12, hi, hx⟩

theorem withP_bpP (w : Word) : withP w (bpP w) = w := by
  refine BitVec.eq_of_getLsbD_eq fun i hi => ?_
  simp only [withP, bpP, BitVec.getLsbD_append, BitVec.getLsbD_extractLsb']
  split
  · simp [*]
  · simp [show i - 30 < 6 by omega, show 30 + (i - 30) = i by omega]

/-- A byte of size 0 at position 0 is followed by itself. -/
theorem plainStep_nothing {w : Word} (hp : bpP w = 0) (hs : bpS w = 0) : plainStep w = w := by
  have hstep : stepPosition (bpP w).toNat (bpS w).toNat = (bpP w, false) := by
    rw [hp, hs]
    rfl
  rw [plainStep, hstep, if_neg Bool.false_ne_true, show rh w + 0 = rh w from BitVec.add_zero _, join_halves]
  exact withP_bpP w

theorem depositByte_nothing (w b : Word) : depositByte 0 0 w b = w := by
  refine BitVec.eq_of_getLsbD_eq fun i hi => ?_
  rw [(byteField 0 0 w b (by decide)).2 i hi, if_neg (by omega)]

section Bytes

variable {s : State} {out : Loc → Prop} {m : Mach} {k : AcNum} {y : Half} (hadm : configAdmitsAll s.cfg)
  (hb : s.cfg.byteIncrement = .standard) (h : Spares s out m) (hk : ¬out (.ac s.cab k)) (hx : s.x k = join 0 y)
include hadm hb h hk hx

theorem nextByte_spares : ∃ b m', nextByte k false m = .ok (b, m') ∧ Spares s out m' := by
  obtain ⟨hp, hs, -⟩ := join_zero_fields y
  have hm : m.st.x k = join 0 y := (h.x hk).trans hx
  obtain ⟨b, m', hm', hst⟩ := nextByte_plain (h.regs.cfg ▸ hadm) (h.regs.cfg ▸ hb) (hm ▸ plainPointer_join_zero y)
  rw [hm, plainStep_nothing hp hs, ← hm] at hst
  exact ⟨b, m', hm', h.put_self (l := .ac m.st.cab k) rfl hst⟩

theorem putByte_spares (hy : 0o17 < y.toNat) (b : Word) : ∃ m', putByte k false b m = .ok m' ∧ Spares s out m' := by
  obtain ⟨hp, hs, hr, -⟩ := join_zero_fields y
  have hm : m.st.x k = join 0 y := (h.x hk).trans hx
  have hstep : plainStep (m.st.x k) = m.st.x k := by rw [hm, plainStep_nothing hp hs]
  obtain ⟨m', p, hm', hst⟩ := putByte_plain (h.regs.cfg ▸ hadm) (h.regs.cfg ▸ hb) (hm ▸ plainPointer_join_zero y)
    (by rw [hstep, hm, hr]; exact hy) b
  rw [hstep] at hst
  have hk' : Spares s out (m.setX k (m.st.x k)) := h.put_self (l := .ac m.st.cab k) rfl rfl
  rw [hm, hp, hs, ← hm] at hst
  exact ⟨m', hm', hk'.put_self (depositByte_nothing _ b) hst⟩

end Bytes

/-! ## The pattern words -/

/-- Below the top an address may be stepped. -/
theorem atTop_inc_iterate (k : Nat) : ∀ a : Addr, a.toNat + k + 1 < 2 ^ 30 → atTop (inc^[k] ⟨a, .glob⟩) = false := by
  induction k with
  | zero =>
    intro a ha
    have hne : a ≠ 0o7777777777 := fun h => by
      rw [h] at ha
      exact absurd ha (by decide)
    exact beq_false_of_ne hne
  | succ k ih =>
    intro a ha
    have hne : a ≠ 0o7777777777 := fun h => by
      rw [h] at ha
      have := show (0o7777777777 : Addr).toNat = 2 ^ 30 - 1 from rfl
      omega
    have hinc : inc ⟨a, .glob⟩ = ⟨a + 1, .glob⟩ := by simp only [inc, if_neg hne]
    rw [Function.iterate_succ_apply, hinc]
    refine ih _ ?_
    rw [BitVec.toNat_add, show (1 : Addr).toNat = 1 from rfl, Nat.mod_eq_of_lt (by omega)]
    omega

/-- The pattern words can be read. -/
theorem skimWords_ok {m : Mach} (hadm : configAdmitsAll m.st.cfg) {a : Addr} {n : Nat} (h : m.st.cfg.rulings = .run ∨ a.toNat + n ≤ 2 ^ 30) :
    skimWords ⟨a, .glob⟩ n m = .ok () := by
  obtain ⟨ws, hws⟩ := readWords_admits hadm .cur n ⟨a, .glob⟩ fun k hk => h.imp_right fun ha => atTop_inc_iterate k a (by omega)
  simp only [skimWords, hws, Run.ok_bind, Run.pure_eq]

theorem editAddress_global {m : Mach} (h : m.st.pcSec ≠ 0) (v : Word) : editAddress m v = .ok ⟨addrOf v, .glob⟩ := if_neg h

/-- The word at the mark address is written, or nothing is. -/
theorem markWrite_spares {s : State} {out : Loc → Prop} {m : Mach} {e : EA} {l : Loc} (h : Spares s out m) (hl : s.locate e .cur .write = .ok l)
    (hout : out l) (b : Bool) (v : Word) : ∃ m', Spares s out m' ∧
      ∀ f : Mach → Run Mach, (if b then m.write e .cur v >>= f else pure m >>= f) = f m' := by
  cases b with
  | false => exact ⟨m, h, fun _ => rfl⟩
  | true =>
    have hw : m.write e .cur v = .ok (m.put l v) := Mach.write_ok ((h.regs.locate ..).trans hl) v
    exact ⟨m.put l v, h.put hout rfl, fun f => by rw [if_pos rfl, hw, Run.ok_bind]⟩

/-- The places EDIT may leave changed: that of its mark and its AC block. -/
def editOut (s : State) (a : AcNum) (mark : Loc) (l : Loc) : Prop :=
  l = mark ∨ ∃ n ∈ [a, a + 1, a + 2, a + 3, a + 4, a + 5], l = .ac s.cab n

/-- EDIT before its end. -/
theorem bodyEdit_eq {s : State} {a : AcNum} {e0 e1 : EA} {e : AddrFields} {y1 y2 : Half} {mark : Loc} (hwf : Memory.wf s.mem = true)
    (hadm : configAdmitsAll s.cfg) (hb : s.cfg.byteIncrement = .standard) (hsec : s.pcSec ≠ 0)
    (he : s.eaCalc (.ifiw e) (secOf e0.addr) .cur = .ok e1) (hy2 : 0o17 < y2.toNat)
    (h1 : s.x (a + 1) = join 0 y1) (h4 : s.x (a + 4) = join 0 y2)
    (hpat : s.cfg.rulings = .run ∨ (addrOf (s.x a)).toNat + (Config.freeWord s.freeCtr).toNat ≤ 2 ^ 30)
    (hmark : s.locate ⟨addrOf (s.x (a + 3)), .glob⟩ .cur .write = .ok mark) (z : BitVec 4) (iw : Option Word) :
    ∃ m, bodyEdit a e0 z e s.top (.start s iw) = finishString a m ∧ Spares s (· = mark) m := by
  have hg : s.top.guardExt false = .ok () := rfl
  have hE : extendedEa e0 e (.start s iw) = .ok e1 := congrArg (Mach.start s iw).ea he
  have hskim : skimWords ⟨addrOf ((Mach.start s iw).x a), .glob⟩ (Mach.start s iw).fresh.toNat (.start s iw) = .ok () :=
    skimWords_ok hadm hpat
  have h0 : Spares s (fun _ => False) (Mach.start s iw).drawn.drawn := (Spares.start hwf iw).drawn.drawn
  obtain ⟨bs, m1, hm1, hs1⟩ := fetchBytes_of (P := Spares s fun _ => False) (fun m h => h.regs.cfg ▸ hadm) (fun m h => nextByte_spares hadm hb h id h1) 0o004 (some e1)
    (Mach.start s iw).drawn.fresh.toNat _ h0
  obtain ⟨m2, hm2, hs2⟩ := storeBytes_of (P := fun _ => Spares s (fun _ => False)) (fun n m h => h.regs.cfg ▸ hadm)
    (fun n m b h => putByte_spares hadm hb h.drawn id h4 hy2 b) 0o004 (some e1) m1.fresh.toNat _ hs1.drawn
  obtain ⟨m3, hs3, hm3⟩ := markWrite_spares (hs2.drawn.mono (out' := (· = mark)) fun _ => False.elim) hmark rfl (bitAt m2.fresh 35)
    m2.drawn.fresh
  refine ⟨m3.drawn, ?_, hs3.drawn⟩
  simp only [bodyEdit, hg, Run.ok_bind, hE, editAddress_global (m := .start s iw) hsec, hskim, hm1, hm2]
  exact hm3 fun m => finishString a m.drawn

/-- Settles O47: its bytes are of size 0, so its pointers and the words they point to stay as they are until the block is left free. -/
theorem editCompletes : Obligations.EditCompletes := by
  intro a e0 e1 z e s y1 y2 hwf hadm hb hsec he hy1 hy2 h1 h4 hpat
  obtain ⟨mark, hmark, -⟩ := State.locate_admits hadm ⟨addrOf (s.x (a + 3)), .glob⟩ .cur
  obtain ⟨m, hm, hs⟩ := bodyEdit_eq hwf hadm hb hsec he hy2 h1 h4 hpat (hmark .write) z (some (trapWord (.edit a e0 z e)))
  have hend : Spares s (editOut s a mark) (freeBlock a m).drawn :=
    ((hs.mono fun _ => .inl).freeBlock fun n hn => .inr ⟨n, hn, rfl⟩).drawn
  obtain ⟨hflags, hmode, hcontext, hpc⟩ := skipIf_regs hend.regs (bitAt (freeBlock a m).fresh 35)
  refine ⟨_, exec_next ⟨_, hm, rfl⟩, skipped_pc hpc, hflags, hmode, hcontext, fun n hn hne => ?acs, fun p hne => ?words⟩
  case acs =>
    refine hend.x ?_
    rintro (rfl | ⟨n', hn', hac⟩)
    · exact hne (hmark .write)
    · obtain ⟨-, rfl⟩ := Loc.ac.inj hac
      exact hn hn'
  case words =>
    refine hend.get (.cell p) ?_
    rintro (rfl | ⟨n', -, hac⟩)
    · exact hne (hmark .write)
    · cases hac

end Sys2Proof.Machine
end
